-- ==== Sys2Proof/Word.lean ====
section
/-! DEFINITION. The two word types of the machine: a byte and an address (R7, R50, R51). -/

namespace Sys2Proof

/-- One byte: registers, memory cells, operand bytes (R7). -/
abbrev Byte := BitVec 8

/-- One 16-bit address (R7, R50), also the type of the program counter (R24). -/
abbrev Addr := BitVec 16

end Sys2Proof
end

