-- ==== Sys2Proof/Config.lean ====
section
/-! DEFINITION. What an implementation fixes (the parameters of R6, as plain data) and the free values, which are
constants with no body: no proof can see their value (log 11, log 14). -/

namespace Sys2Proof

/-- CPUTYPE (R2, R6). CPU8 is `cpu12` (D1, log 34). -/
inductive CpuType where
  | t65b02
  | t65n02
  | t65r02
  | t65s02
  | cpu12
deriving DecidableEq, Repr

/-- OPMAP (R6, R85): the "6502 Opcode" column or the "Sunplus Opcode" column. -/
inductive OpMap where
  | std
  | sun
deriving DecidableEq, Repr

/-- JMP_IND_WRAP (R6, R109). -/
inductive JmpIndWrap where
  | carry
  | nocarry
deriving DecidableEq, Repr

/-- The four kinds of address of MEM (R63). -/
inductive RegionKind where
  | rom
  | ram
  | io
  | unmapped
deriving DecidableEq, Repr

/-- A run of addresses of one kind, `base` to `base + size - 1` (R62, R63). -/
structure Region where
  base : Addr
  size : Nat
  kind : RegionKind
deriving DecidableEq, Repr

/-- Where a run starts (R231): through the two bytes at RESET_VECTOR, or at a start pc given directly. -/
inductive Start where
  | vector (at_ : Addr)
  | pc (at_ : Addr)
deriving DecidableEq, Repr

/-- The parameters of the chip (R6). `none` is a parameter with no value: the rules that need it stop (R109, R207, R231).
MEM is the list `regions` and, for every address in none of them, the kind `elsewhere` (R63; log 41). -/
structure Chip where
  cpu : CpuType
  opMap : OpMap
  stackPage : Byte
  irqVector : Option Addr
  start : Option Start
  jmpIndWrap : Option JmpIndWrap
  regions : List Region
  elsewhere : RegionKind
deriving DecidableEq, Repr

/-- The chip of `State.reset`. DESIGN CHOICE and PRESUMED, unsafe (log 2 to log 8): the spec leaves every parameter open, and
every statement about all states holds for every chip. -/
def Chip.default : Chip where
  cpu := .t65b02
  opMap := .std
  stackPage := 0x01#8
  irqVector := some 0xFFFE#16
  start := some (.pc 0x0200#16)
  jmpIndWrap := some .carry
  regions := []
  elsewhere := .ram

/-- A drawn bit, `any1` of R9: the value of draw number `draw` (log 14). -/
opaque Config.freeBit (draw : Nat) : Bool

/-- A drawn byte, `any8` of R9: the value of draw number `draw` (log 14). -/
opaque Config.freeByte (draw : Nat) : Byte

/-- What a RAM or ROM byte that nothing has written reads as: unspecified, drawn once (R63, R233, U12; log 11). -/
opaque Config.powerOnByte (addr : Addr) : Byte

end Sys2Proof
end

