-- ==== Sys2Proof/Syntax.lean ====
section
/-! DEFINITION. The instructions: one constructor for each of the 182 rows of the opcode table (R86), with its operand
bytes (R83); the bit number of CLR, INV, SET and TST is in the constructor, as it is in the opcode (R87, R112). -/

namespace Sys2Proof

/-- The addressing-mode ids (R84). -/
inductive Mode where
  | imm
  | abs
  | absx
  | absy
  | zp
  | zpx
  | zpy
  | imp
  | acc
  | indx
  | ind
  | indy
  | rel
  | zpbit
deriving DecidableEq, Repr

/-- The length in bytes of an instruction of a mode (R81, R84). -/
def Mode.length : Mode → Nat
  | .imm => 2
  | .abs => 3
  | .absx => 3
  | .absy => 3
  | .zp => 2
  | .zpx => 2
  | .zpy => 2
  | .imp => 1
  | .acc => 1
  | .indx => 2
  | .ind => 3
  | .indy => 2
  | .rel => 2
  | .zpbit => 2

/-- The instruction set, in the order of the opcode table (R86). -/
inductive Instr where
  /-- `ADC #dd` (R120, mode R101). -/
  | adcImm (dd : Byte)
  /-- `ADC aa` (R120, mode R104). -/
  | adcZp (aa : Byte)
  /-- `ADC aa, X` (R120, mode R105). -/
  | adcZpx (aa : Byte)
  /-- `ADC aaaa` (R120, mode R102). -/
  | adcAbs (aaaa : Addr)
  /-- `ADC aaaa, X` (R120, mode R103). -/
  | adcAbsx (aaaa : Addr)
  /-- `ADC aaaa, Y` (R120, mode R103). -/
  | adcAbsy (aaaa : Addr)
  /-- `ADC (aa, X)` (R120, mode R108). -/
  | adcIndx (aa : Byte)
  /-- `ADC (aa), Y` (R120, mode R110). -/
  | adcIndy (aa : Byte)
  /-- `AND #dd` (R121, mode R101). -/
  | andImm (dd : Byte)
  /-- `AND aa` (R121, mode R104). -/
  | andZp (aa : Byte)
  /-- `AND aa, X` (R121, mode R105). -/
  | andZpx (aa : Byte)
  /-- `AND aaaa` (R121, mode R102). -/
  | andAbs (aaaa : Addr)
  /-- `AND aaaa, X` (R121, mode R103). -/
  | andAbsx (aaaa : Addr)
  /-- `AND aaaa, Y` (R121, mode R103). -/
  | andAbsy (aaaa : Addr)
  /-- `AND (aa, X)` (R121, mode R108). -/
  | andIndx (aa : Byte)
  /-- `AND (aa), Y` (R121, mode R110). -/
  | andIndy (aa : Byte)
  /-- `ASL A` (R122, mode R107). -/
  | aslAcc
  /-- `ASL aa` (R122, mode R104). -/
  | aslZp (aa : Byte)
  /-- `ASL aa, X` (R122, mode R105). -/
  | aslZpx (aa : Byte)
  /-- `ASL aaaa` (R122, mode R102). -/
  | aslAbs (aaaa : Addr)
  /-- `ASL aaaa, X` (R122, mode R103). -/
  | aslAbsx (aaaa : Addr)
  /-- `BCC aa` (R123, mode R111). -/
  | bcc (rel : Byte)
  /-- `BCS aa` (R124, mode R111). -/
  | bcs (rel : Byte)
  /-- `BEQ aa` (R125, mode R111). -/
  | beq (rel : Byte)
  /-- `BMI aa` (R127, mode R111). -/
  | bmi (rel : Byte)
  /-- `BNE aa` (R128, mode R111). -/
  | bne (rel : Byte)
  /-- `BPL aa` (R129, mode R111). -/
  | bpl (rel : Byte)
  /-- `BVC aa` (R130, mode R111). -/
  | bvc (rel : Byte)
  /-- `BVS aa` (R131, mode R111). -/
  | bvs (rel : Byte)
  /-- `BIT aa` (R126, mode R104). -/
  | bitZp (aa : Byte)
  /-- `BIT aaaa` (R126, mode R102). -/
  | bitAbs (aaaa : Addr)
  /-- `CLC` (R132, mode R106). -/
  | clc
  /-- `CLD` (R133, mode R106). -/
  | cld
  /-- `CLI` (R134, mode R106). -/
  | cli
  /-- `CLR aa, 0` (R135, mode R112). -/
  | clr0 (aa : Byte)
  /-- `CLR aa, 1` (R135, mode R112). -/
  | clr1 (aa : Byte)
  /-- `CLR aa, 2` (R135, mode R112). -/
  | clr2 (aa : Byte)
  /-- `CLR aa, 3` (R135, mode R112). -/
  | clr3 (aa : Byte)
  /-- `CLR aa, 4` (R135, mode R112). -/
  | clr4 (aa : Byte)
  /-- `CLR aa, 5` (R135, mode R112). -/
  | clr5 (aa : Byte)
  /-- `CLR aa, 6` (R135, mode R112). -/
  | clr6 (aa : Byte)
  /-- `CLR aa, 7` (R135, mode R112). -/
  | clr7 (aa : Byte)
  /-- `CLV` (R136, mode R106). -/
  | clv
  /-- `CMP #dd` (R137, mode R101). -/
  | cmpImm (dd : Byte)
  /-- `CMP aa` (R137, mode R104). -/
  | cmpZp (aa : Byte)
  /-- `CMP aa, X` (R137, mode R105). -/
  | cmpZpx (aa : Byte)
  /-- `CMP aaaa` (R137, mode R102). -/
  | cmpAbs (aaaa : Addr)
  /-- `CMP aaaa, X` (R137, mode R103). -/
  | cmpAbsx (aaaa : Addr)
  /-- `CMP aaaa, Y` (R137, mode R103). -/
  | cmpAbsy (aaaa : Addr)
  /-- `CMP (aa, X)` (R137, mode R108). -/
  | cmpIndx (aa : Byte)
  /-- `CMP (aa), Y` (R137, mode R110). -/
  | cmpIndy (aa : Byte)
  /-- `CPX #dd` (R138, mode R101). -/
  | cpxImm (dd : Byte)
  /-- `CPX aa` (R138, mode R104). -/
  | cpxZp (aa : Byte)
  /-- `CPX aaaa` (R138, mode R102). -/
  | cpxAbs (aaaa : Addr)
  /-- `CPY #dd` (R139, mode R101). -/
  | cpyImm (dd : Byte)
  /-- `CPY aa` (R139, mode R104). -/
  | cpyZp (aa : Byte)
  /-- `CPY aaaa` (R139, mode R102). -/
  | cpyAbs (aaaa : Addr)
  /-- `DEC aa` (R140, mode R104). -/
  | decZp (aa : Byte)
  /-- `DEC aa, X` (R140, mode R105). -/
  | decZpx (aa : Byte)
  /-- `DEC aaaa` (R140, mode R102). -/
  | decAbs (aaaa : Addr)
  /-- `DEC aaaa, X` (R140, mode R103). -/
  | decAbsx (aaaa : Addr)
  /-- `DEX` (R141, mode R106). -/
  | dex
  /-- `DEY` (R142, mode R106). -/
  | dey
  /-- `EOR #dd` (R143, mode R101). -/
  | eorImm (dd : Byte)
  /-- `EOR aa` (R143, mode R104). -/
  | eorZp (aa : Byte)
  /-- `EOR aa, X` (R143, mode R105). -/
  | eorZpx (aa : Byte)
  /-- `EOR aaaa` (R143, mode R102). -/
  | eorAbs (aaaa : Addr)
  /-- `EOR aaaa, X` (R143, mode R103). -/
  | eorAbsx (aaaa : Addr)
  /-- `EOR aaaa, Y` (R143, mode R103). -/
  | eorAbsy (aaaa : Addr)
  /-- `EOR (aa, X)` (R143, mode R108). -/
  | eorIndx (aa : Byte)
  /-- `EOR (aa), Y` (R143, mode R110). -/
  | eorIndy (aa : Byte)
  /-- `INC aa` (R144, mode R104). -/
  | incZp (aa : Byte)
  /-- `INC aa, X` (R144, mode R105). -/
  | incZpx (aa : Byte)
  /-- `INC aaaa` (R144, mode R102). -/
  | incAbs (aaaa : Addr)
  /-- `INC aaaa, X` (R144, mode R103). -/
  | incAbsx (aaaa : Addr)
  /-- `INV aa, 0` (R145, mode R112). -/
  | inv0 (aa : Byte)
  /-- `INV aa, 1` (R145, mode R112). -/
  | inv1 (aa : Byte)
  /-- `INV aa, 2` (R145, mode R112). -/
  | inv2 (aa : Byte)
  /-- `INV aa, 3` (R145, mode R112). -/
  | inv3 (aa : Byte)
  /-- `INV aa, 4` (R145, mode R112). -/
  | inv4 (aa : Byte)
  /-- `INV aa, 5` (R145, mode R112). -/
  | inv5 (aa : Byte)
  /-- `INV aa, 6` (R145, mode R112). -/
  | inv6 (aa : Byte)
  /-- `INV aa, 7` (R145, mode R112). -/
  | inv7 (aa : Byte)
  /-- `INX` (R146, mode R106). -/
  | inx
  /-- `INY` (R147, mode R106). -/
  | iny
  /-- `JMP aaaa` (R148, mode R102). -/
  | jmpAbs (aaaa : Addr)
  /-- `JMP (aaaa)` (R148, mode R109). -/
  | jmpInd (aaaa : Addr)
  /-- `JSR aaaa` (R149, mode R102). -/
  | jsr (aaaa : Addr)
  /-- `LDA #dd` (R150, mode R101). -/
  | ldaImm (dd : Byte)
  /-- `LDA aa` (R150, mode R104). -/
  | ldaZp (aa : Byte)
  /-- `LDA aa, X` (R150, mode R105). -/
  | ldaZpx (aa : Byte)
  /-- `LDA aaaa` (R150, mode R102). -/
  | ldaAbs (aaaa : Addr)
  /-- `LDA aaaa, X` (R150, mode R103). -/
  | ldaAbsx (aaaa : Addr)
  /-- `LDA aaaa, Y` (R150, mode R103). -/
  | ldaAbsy (aaaa : Addr)
  /-- `LDA (aa, X)` (R150, mode R108). -/
  | ldaIndx (aa : Byte)
  /-- `LDA (aa), Y` (R150, mode R110). -/
  | ldaIndy (aa : Byte)
  /-- `LDX #dd` (R151, mode R101). -/
  | ldxImm (dd : Byte)
  /-- `LDX aa` (R151, mode R104). -/
  | ldxZp (aa : Byte)
  /-- `LDX aa, Y` (R151, mode R105). -/
  | ldxZpy (aa : Byte)
  /-- `LDX aaaa` (R151, mode R102). -/
  | ldxAbs (aaaa : Addr)
  /-- `LDX aaaa, Y` (R151, mode R103). -/
  | ldxAbsy (aaaa : Addr)
  /-- `LDY #dd` (R152, mode R101). -/
  | ldyImm (dd : Byte)
  /-- `LDY aa` (R152, mode R104). -/
  | ldyZp (aa : Byte)
  /-- `LDY aa, X` (R152, mode R105). -/
  | ldyZpx (aa : Byte)
  /-- `LDY aaaa` (R152, mode R102). -/
  | ldyAbs (aaaa : Addr)
  /-- `LDY aaaa, X` (R152, mode R103). -/
  | ldyAbsx (aaaa : Addr)
  /-- `LSR A` (R153, mode R107). -/
  | lsrAcc
  /-- `LSR aa` (R153, mode R104). -/
  | lsrZp (aa : Byte)
  /-- `LSR aa, X` (R153, mode R105). -/
  | lsrZpx (aa : Byte)
  /-- `LSR aaaa` (R153, mode R102). -/
  | lsrAbs (aaaa : Addr)
  /-- `LSR aaaa, X` (R153, mode R103). -/
  | lsrAbsx (aaaa : Addr)
  /-- `NOP` (R154, mode R106). -/
  | nop
  /-- `ORA #dd` (R155, mode R101). -/
  | oraImm (dd : Byte)
  /-- `ORA aa` (R155, mode R104). -/
  | oraZp (aa : Byte)
  /-- `ORA aa, X` (R155, mode R105). -/
  | oraZpx (aa : Byte)
  /-- `ORA aaaa` (R155, mode R102). -/
  | oraAbs (aaaa : Addr)
  /-- `ORA aaaa, X` (R155, mode R103). -/
  | oraAbsx (aaaa : Addr)
  /-- `ORA aaaa, Y` (R155, mode R103). -/
  | oraAbsy (aaaa : Addr)
  /-- `ORA (aa, X)` (R155, mode R108). -/
  | oraIndx (aa : Byte)
  /-- `ORA (aa), Y` (R155, mode R110). -/
  | oraIndy (aa : Byte)
  /-- `PHA` (R156, mode R106). -/
  | pha
  /-- `PHP` (R157, mode R106). -/
  | php
  /-- `PLA` (R158, mode R106). -/
  | pla
  /-- `PLP` (R159, mode R106). -/
  | plp
  /-- `ROL A` (R160, mode R107). -/
  | rolAcc
  /-- `ROL aa` (R160, mode R104). -/
  | rolZp (aa : Byte)
  /-- `ROL aa, X` (R160, mode R105). -/
  | rolZpx (aa : Byte)
  /-- `ROL aaaa` (R160, mode R102). -/
  | rolAbs (aaaa : Addr)
  /-- `ROL aaaa, X` (R160, mode R103). -/
  | rolAbsx (aaaa : Addr)
  /-- `ROR A` (R161, mode R107). -/
  | rorAcc
  /-- `ROR aa` (R161, mode R104). -/
  | rorZp (aa : Byte)
  /-- `ROR aa, X` (R161, mode R105). -/
  | rorZpx (aa : Byte)
  /-- `ROR aaaa` (R161, mode R102). -/
  | rorAbs (aaaa : Addr)
  /-- `ROR aaaa, X` (R161, mode R103). -/
  | rorAbsx (aaaa : Addr)
  /-- `RTI` (R162, mode R106). -/
  | rti
  /-- `RTS` (R163, mode R106). -/
  | rts
  /-- `SBC #dd` (R164, mode R101). -/
  | sbcImm (dd : Byte)
  /-- `SBC aa` (R164, mode R104). -/
  | sbcZp (aa : Byte)
  /-- `SBC aa, X` (R164, mode R105). -/
  | sbcZpx (aa : Byte)
  /-- `SBC aaaa` (R164, mode R102). -/
  | sbcAbs (aaaa : Addr)
  /-- `SBC aaaa, X` (R164, mode R103). -/
  | sbcAbsx (aaaa : Addr)
  /-- `SBC aaaa, Y` (R164, mode R103). -/
  | sbcAbsy (aaaa : Addr)
  /-- `SBC (aa, X)` (R164, mode R108). -/
  | sbcIndx (aa : Byte)
  /-- `SBC (aa), Y` (R164, mode R110). -/
  | sbcIndy (aa : Byte)
  /-- `SEC` (R165, mode R106). -/
  | sec
  /-- `SED` (R166, mode R106). -/
  | sed
  /-- `SEI` (R167, mode R106). -/
  | sei
  /-- `SET aa, 0` (R168, mode R112). -/
  | set0 (aa : Byte)
  /-- `SET aa, 1` (R168, mode R112). -/
  | set1 (aa : Byte)
  /-- `SET aa, 2` (R168, mode R112). -/
  | set2 (aa : Byte)
  /-- `SET aa, 3` (R168, mode R112). -/
  | set3 (aa : Byte)
  /-- `SET aa, 4` (R168, mode R112). -/
  | set4 (aa : Byte)
  /-- `SET aa, 5` (R168, mode R112). -/
  | set5 (aa : Byte)
  /-- `SET aa, 6` (R168, mode R112). -/
  | set6 (aa : Byte)
  /-- `SET aa, 7` (R168, mode R112). -/
  | set7 (aa : Byte)
  /-- `STA aa` (R169, mode R104). -/
  | staZp (aa : Byte)
  /-- `STA aa, X` (R169, mode R105). -/
  | staZpx (aa : Byte)
  /-- `STA aaaa` (R169, mode R102). -/
  | staAbs (aaaa : Addr)
  /-- `STA aaaa, X` (R169, mode R103). -/
  | staAbsx (aaaa : Addr)
  /-- `STA aaaa, Y` (R169, mode R103). -/
  | staAbsy (aaaa : Addr)
  /-- `STA (aa, X)` (R169, mode R108). -/
  | staIndx (aa : Byte)
  /-- `STA (aa), Y` (R169, mode R110). -/
  | staIndy (aa : Byte)
  /-- `STX aa` (R170, mode R104). -/
  | stxZp (aa : Byte)
  /-- `STX aa, Y` (R170, mode R105). -/
  | stxZpy (aa : Byte)
  /-- `STX aaaa` (R170, mode R102). -/
  | stxAbs (aaaa : Addr)
  /-- `STY aa` (R171, mode R104). -/
  | styZp (aa : Byte)
  /-- `STY aa, X` (R171, mode R105). -/
  | styZpx (aa : Byte)
  /-- `STY aaaa` (R171, mode R102). -/
  | styAbs (aaaa : Addr)
  /-- `TAX` (R172, mode R106). -/
  | tax
  /-- `TAY` (R173, mode R106). -/
  | tay
  /-- `TST aa, 0` (R174, mode R112). -/
  | tst0 (aa : Byte)
  /-- `TST aa, 1` (R174, mode R112). -/
  | tst1 (aa : Byte)
  /-- `TST aa, 2` (R174, mode R112). -/
  | tst2 (aa : Byte)
  /-- `TST aa, 3` (R174, mode R112). -/
  | tst3 (aa : Byte)
  /-- `TST aa, 4` (R174, mode R112). -/
  | tst4 (aa : Byte)
  /-- `TST aa, 5` (R174, mode R112). -/
  | tst5 (aa : Byte)
  /-- `TST aa, 6` (R174, mode R112). -/
  | tst6 (aa : Byte)
  /-- `TST aa, 7` (R174, mode R112). -/
  | tst7 (aa : Byte)
  /-- `TSX` (R175, mode R106). -/
  | tsx
  /-- `TXA` (R176, mode R106). -/
  | txa
  /-- `TXS` (R177, mode R106). -/
  | txs
  /-- `TYA` (R178, mode R106). -/
  | tya
deriving DecidableEq, Repr

/-- The addressing mode of an instruction's row (R86). -/
def Instr.mode : Instr → Mode
  | .adcImm _ => .imm
  | .adcZp _ => .zp
  | .adcZpx _ => .zpx
  | .adcAbs _ => .abs
  | .adcAbsx _ => .absx
  | .adcAbsy _ => .absy
  | .adcIndx _ => .indx
  | .adcIndy _ => .indy
  | .andImm _ => .imm
  | .andZp _ => .zp
  | .andZpx _ => .zpx
  | .andAbs _ => .abs
  | .andAbsx _ => .absx
  | .andAbsy _ => .absy
  | .andIndx _ => .indx
  | .andIndy _ => .indy
  | .aslAcc => .acc
  | .aslZp _ => .zp
  | .aslZpx _ => .zpx
  | .aslAbs _ => .abs
  | .aslAbsx _ => .absx
  | .bcc _ => .rel
  | .bcs _ => .rel
  | .beq _ => .rel
  | .bmi _ => .rel
  | .bne _ => .rel
  | .bpl _ => .rel
  | .bvc _ => .rel
  | .bvs _ => .rel
  | .bitZp _ => .zp
  | .bitAbs _ => .abs
  | .clc => .imp
  | .cld => .imp
  | .cli => .imp
  | .clr0 _ => .zpbit
  | .clr1 _ => .zpbit
  | .clr2 _ => .zpbit
  | .clr3 _ => .zpbit
  | .clr4 _ => .zpbit
  | .clr5 _ => .zpbit
  | .clr6 _ => .zpbit
  | .clr7 _ => .zpbit
  | .clv => .imp
  | .cmpImm _ => .imm
  | .cmpZp _ => .zp
  | .cmpZpx _ => .zpx
  | .cmpAbs _ => .abs
  | .cmpAbsx _ => .absx
  | .cmpAbsy _ => .absy
  | .cmpIndx _ => .indx
  | .cmpIndy _ => .indy
  | .cpxImm _ => .imm
  | .cpxZp _ => .zp
  | .cpxAbs _ => .abs
  | .cpyImm _ => .imm
  | .cpyZp _ => .zp
  | .cpyAbs _ => .abs
  | .decZp _ => .zp
  | .decZpx _ => .zpx
  | .decAbs _ => .abs
  | .decAbsx _ => .absx
  | .dex => .imp
  | .dey => .imp
  | .eorImm _ => .imm
  | .eorZp _ => .zp
  | .eorZpx _ => .zpx
  | .eorAbs _ => .abs
  | .eorAbsx _ => .absx
  | .eorAbsy _ => .absy
  | .eorIndx _ => .indx
  | .eorIndy _ => .indy
  | .incZp _ => .zp
  | .incZpx _ => .zpx
  | .incAbs _ => .abs
  | .incAbsx _ => .absx
  | .inv0 _ => .zpbit
  | .inv1 _ => .zpbit
  | .inv2 _ => .zpbit
  | .inv3 _ => .zpbit
  | .inv4 _ => .zpbit
  | .inv5 _ => .zpbit
  | .inv6 _ => .zpbit
  | .inv7 _ => .zpbit
  | .inx => .imp
  | .iny => .imp
  | .jmpAbs _ => .abs
  | .jmpInd _ => .ind
  | .jsr _ => .abs
  | .ldaImm _ => .imm
  | .ldaZp _ => .zp
  | .ldaZpx _ => .zpx
  | .ldaAbs _ => .abs
  | .ldaAbsx _ => .absx
  | .ldaAbsy _ => .absy
  | .ldaIndx _ => .indx
  | .ldaIndy _ => .indy
  | .ldxImm _ => .imm
  | .ldxZp _ => .zp
  | .ldxZpy _ => .zpy
  | .ldxAbs _ => .abs
  | .ldxAbsy _ => .absy
  | .ldyImm _ => .imm
  | .ldyZp _ => .zp
  | .ldyZpx _ => .zpx
  | .ldyAbs _ => .abs
  | .ldyAbsx _ => .absx
  | .lsrAcc => .acc
  | .lsrZp _ => .zp
  | .lsrZpx _ => .zpx
  | .lsrAbs _ => .abs
  | .lsrAbsx _ => .absx
  | .nop => .imp
  | .oraImm _ => .imm
  | .oraZp _ => .zp
  | .oraZpx _ => .zpx
  | .oraAbs _ => .abs
  | .oraAbsx _ => .absx
  | .oraAbsy _ => .absy
  | .oraIndx _ => .indx
  | .oraIndy _ => .indy
  | .pha => .imp
  | .php => .imp
  | .pla => .imp
  | .plp => .imp
  | .rolAcc => .acc
  | .rolZp _ => .zp
  | .rolZpx _ => .zpx
  | .rolAbs _ => .abs
  | .rolAbsx _ => .absx
  | .rorAcc => .acc
  | .rorZp _ => .zp
  | .rorZpx _ => .zpx
  | .rorAbs _ => .abs
  | .rorAbsx _ => .absx
  | .rti => .imp
  | .rts => .imp
  | .sbcImm _ => .imm
  | .sbcZp _ => .zp
  | .sbcZpx _ => .zpx
  | .sbcAbs _ => .abs
  | .sbcAbsx _ => .absx
  | .sbcAbsy _ => .absy
  | .sbcIndx _ => .indx
  | .sbcIndy _ => .indy
  | .sec => .imp
  | .sed => .imp
  | .sei => .imp
  | .set0 _ => .zpbit
  | .set1 _ => .zpbit
  | .set2 _ => .zpbit
  | .set3 _ => .zpbit
  | .set4 _ => .zpbit
  | .set5 _ => .zpbit
  | .set6 _ => .zpbit
  | .set7 _ => .zpbit
  | .staZp _ => .zp
  | .staZpx _ => .zpx
  | .staAbs _ => .abs
  | .staAbsx _ => .absx
  | .staAbsy _ => .absy
  | .staIndx _ => .indx
  | .staIndy _ => .indy
  | .stxZp _ => .zp
  | .stxZpy _ => .zpy
  | .stxAbs _ => .abs
  | .styZp _ => .zp
  | .styZpx _ => .zpx
  | .styAbs _ => .abs
  | .tax => .imp
  | .tay => .imp
  | .tst0 _ => .zpbit
  | .tst1 _ => .zpbit
  | .tst2 _ => .zpbit
  | .tst3 _ => .zpbit
  | .tst4 _ => .zpbit
  | .tst5 _ => .zpbit
  | .tst6 _ => .zpbit
  | .tst7 _ => .zpbit
  | .tsx => .imp
  | .txa => .imp
  | .txs => .imp
  | .tya => .imp

/-- The mnemonic of an instruction's row (R86). -/
def Instr.mnemonic : Instr → String
  | .adcImm _ => "ADC"
  | .adcZp _ => "ADC"
  | .adcZpx _ => "ADC"
  | .adcAbs _ => "ADC"
  | .adcAbsx _ => "ADC"
  | .adcAbsy _ => "ADC"
  | .adcIndx _ => "ADC"
  | .adcIndy _ => "ADC"
  | .andImm _ => "AND"
  | .andZp _ => "AND"
  | .andZpx _ => "AND"
  | .andAbs _ => "AND"
  | .andAbsx _ => "AND"
  | .andAbsy _ => "AND"
  | .andIndx _ => "AND"
  | .andIndy _ => "AND"
  | .aslAcc => "ASL"
  | .aslZp _ => "ASL"
  | .aslZpx _ => "ASL"
  | .aslAbs _ => "ASL"
  | .aslAbsx _ => "ASL"
  | .bcc _ => "BCC"
  | .bcs _ => "BCS"
  | .beq _ => "BEQ"
  | .bmi _ => "BMI"
  | .bne _ => "BNE"
  | .bpl _ => "BPL"
  | .bvc _ => "BVC"
  | .bvs _ => "BVS"
  | .bitZp _ => "BIT"
  | .bitAbs _ => "BIT"
  | .clc => "CLC"
  | .cld => "CLD"
  | .cli => "CLI"
  | .clr0 _ => "CLR"
  | .clr1 _ => "CLR"
  | .clr2 _ => "CLR"
  | .clr3 _ => "CLR"
  | .clr4 _ => "CLR"
  | .clr5 _ => "CLR"
  | .clr6 _ => "CLR"
  | .clr7 _ => "CLR"
  | .clv => "CLV"
  | .cmpImm _ => "CMP"
  | .cmpZp _ => "CMP"
  | .cmpZpx _ => "CMP"
  | .cmpAbs _ => "CMP"
  | .cmpAbsx _ => "CMP"
  | .cmpAbsy _ => "CMP"
  | .cmpIndx _ => "CMP"
  | .cmpIndy _ => "CMP"
  | .cpxImm _ => "CPX"
  | .cpxZp _ => "CPX"
  | .cpxAbs _ => "CPX"
  | .cpyImm _ => "CPY"
  | .cpyZp _ => "CPY"
  | .cpyAbs _ => "CPY"
  | .decZp _ => "DEC"
  | .decZpx _ => "DEC"
  | .decAbs _ => "DEC"
  | .decAbsx _ => "DEC"
  | .dex => "DEX"
  | .dey => "DEY"
  | .eorImm _ => "EOR"
  | .eorZp _ => "EOR"
  | .eorZpx _ => "EOR"
  | .eorAbs _ => "EOR"
  | .eorAbsx _ => "EOR"
  | .eorAbsy _ => "EOR"
  | .eorIndx _ => "EOR"
  | .eorIndy _ => "EOR"
  | .incZp _ => "INC"
  | .incZpx _ => "INC"
  | .incAbs _ => "INC"
  | .incAbsx _ => "INC"
  | .inv0 _ => "INV"
  | .inv1 _ => "INV"
  | .inv2 _ => "INV"
  | .inv3 _ => "INV"
  | .inv4 _ => "INV"
  | .inv5 _ => "INV"
  | .inv6 _ => "INV"
  | .inv7 _ => "INV"
  | .inx => "INX"
  | .iny => "INY"
  | .jmpAbs _ => "JMP"
  | .jmpInd _ => "JMP"
  | .jsr _ => "JSR"
  | .ldaImm _ => "LDA"
  | .ldaZp _ => "LDA"
  | .ldaZpx _ => "LDA"
  | .ldaAbs _ => "LDA"
  | .ldaAbsx _ => "LDA"
  | .ldaAbsy _ => "LDA"
  | .ldaIndx _ => "LDA"
  | .ldaIndy _ => "LDA"
  | .ldxImm _ => "LDX"
  | .ldxZp _ => "LDX"
  | .ldxZpy _ => "LDX"
  | .ldxAbs _ => "LDX"
  | .ldxAbsy _ => "LDX"
  | .ldyImm _ => "LDY"
  | .ldyZp _ => "LDY"
  | .ldyZpx _ => "LDY"
  | .ldyAbs _ => "LDY"
  | .ldyAbsx _ => "LDY"
  | .lsrAcc => "LSR"
  | .lsrZp _ => "LSR"
  | .lsrZpx _ => "LSR"
  | .lsrAbs _ => "LSR"
  | .lsrAbsx _ => "LSR"
  | .nop => "NOP"
  | .oraImm _ => "ORA"
  | .oraZp _ => "ORA"
  | .oraZpx _ => "ORA"
  | .oraAbs _ => "ORA"
  | .oraAbsx _ => "ORA"
  | .oraAbsy _ => "ORA"
  | .oraIndx _ => "ORA"
  | .oraIndy _ => "ORA"
  | .pha => "PHA"
  | .php => "PHP"
  | .pla => "PLA"
  | .plp => "PLP"
  | .rolAcc => "ROL"
  | .rolZp _ => "ROL"
  | .rolZpx _ => "ROL"
  | .rolAbs _ => "ROL"
  | .rolAbsx _ => "ROL"
  | .rorAcc => "ROR"
  | .rorZp _ => "ROR"
  | .rorZpx _ => "ROR"
  | .rorAbs _ => "ROR"
  | .rorAbsx _ => "ROR"
  | .rti => "RTI"
  | .rts => "RTS"
  | .sbcImm _ => "SBC"
  | .sbcZp _ => "SBC"
  | .sbcZpx _ => "SBC"
  | .sbcAbs _ => "SBC"
  | .sbcAbsx _ => "SBC"
  | .sbcAbsy _ => "SBC"
  | .sbcIndx _ => "SBC"
  | .sbcIndy _ => "SBC"
  | .sec => "SEC"
  | .sed => "SED"
  | .sei => "SEI"
  | .set0 _ => "SET"
  | .set1 _ => "SET"
  | .set2 _ => "SET"
  | .set3 _ => "SET"
  | .set4 _ => "SET"
  | .set5 _ => "SET"
  | .set6 _ => "SET"
  | .set7 _ => "SET"
  | .staZp _ => "STA"
  | .staZpx _ => "STA"
  | .staAbs _ => "STA"
  | .staAbsx _ => "STA"
  | .staAbsy _ => "STA"
  | .staIndx _ => "STA"
  | .staIndy _ => "STA"
  | .stxZp _ => "STX"
  | .stxZpy _ => "STX"
  | .stxAbs _ => "STX"
  | .styZp _ => "STY"
  | .styZpx _ => "STY"
  | .styAbs _ => "STY"
  | .tax => "TAX"
  | .tay => "TAY"
  | .tst0 _ => "TST"
  | .tst1 _ => "TST"
  | .tst2 _ => "TST"
  | .tst3 _ => "TST"
  | .tst4 _ => "TST"
  | .tst5 _ => "TST"
  | .tst6 _ => "TST"
  | .tst7 _ => "TST"
  | .tsx => "TSX"
  | .txa => "TXA"
  | .txs => "TXS"
  | .tya => "TYA"

/-- The length of an instruction in bytes (R80, R81). -/
def Instr.length (i : Instr) : Nat := i.mode.length

end Sys2Proof
end

