-- ==== Sys2Proof/Machine/State.lean ====
section
/-! DEFINITION. The state of the machine as plain data, the reasons a step can stop, and the state after reset. -/

namespace Sys2Proof.Machine

/-- The six flags of the status register P (R26); its bits 5 and 4 hold no state (R36, R37; log 44). -/
structure Flags where
  /-- Negative, bit 7 of P (R27). -/
  n : Bool
  /-- Overflow, bit 6 of P (R29). -/
  v : Bool
  /-- Decimal mode, bit 3 of P (R34). -/
  d : Bool
  /-- Interrupt disable, bit 2 of P (R35). -/
  i : Bool
  /-- Zero, bit 1 of P (R27). -/
  z : Bool
  /-- Carry, bit 0 of P (R28). -/
  c : Bool
deriving DecidableEq, Repr

/-- The environment's input at one instruction boundary (R41, R204, R205, R206; log 17, log 18). -/
structure IrqInput where
  /-- `irq_pending`: some enabled device of the body requests service. -/
  pending : Bool
  /-- The choice of R206: where the interrupt may be taken at this boundary, it is taken. -/
  accept : Bool
deriving DecidableEq, Repr

/-- Memory: the bytes that are configured or have been written, addresses strictly rising (R40; log 45). -/
abbrev Memory := List Host.Cell

/-- The architectural state (R20, R26, R40, R41), the chip's parameters (R6; log 1) and the count of free values drawn (log 14). -/
structure State where
  /-- Accumulator A (R21). -/
  a : Byte
  /-- Index register X (R22). -/
  x : Byte
  /-- Index register Y (R23). -/
  y : Byte
  /-- Stack pointer SP (R25). -/
  sp : Byte
  /-- Program counter PC (R24). -/
  pc : Addr
  /-- The status flags (R26). -/
  p : Flags
  /-- Memory (R40). -/
  mem : Memory
  /-- The interrupt input at this instruction boundary (R205). -/
  irq : IrqInput
  /-- The interrupt inputs at the boundaries after this one; when the list is empty the input is held (log 17). -/
  irqNext : List IrqInput
  /-- The model's own field: how many free values have been drawn (log 14). -/
  draws : Nat
  /-- The parameters of the chip (R6); no step changes them. -/
  chip : Chip
deriving DecidableEq, Repr

/-- The model faults of R201. Each ends the run, changes no state and pushes nothing; all are safe: the spec says what
raises them and gives no effect. -/
inductive Fault where
  /-- Raised by the fetch of an opcode byte that the map in force assigns to nothing (R88). Safe. -/
  | illegalOpcode (opcode : Byte)
  /-- Raised by the fetch of an opcode whose cell for CPUTYPE is X (R89). Safe. -/
  | unavailable (mnemonic : String) (mode : Mode)
  /-- Raised by `MemRead`, fetch included, at an unmapped address (R63). Safe. -/
  | unmappedRead (addr : Addr)
  /-- Raised by `MemWrite` at an unmapped address (R63). Safe. -/
  | unmappedWrite (addr : Addr)
  /-- Raised by interrupt entry where IRQ_VECTOR has no value (R207). Safe. -/
  | noIrqVector
deriving DecidableEq, Repr

/-- Where the model has no meaning to give. -/
inductive Refusal where
  /-- Raised by no arm of `exec`: every instruction has its meaning. Safe. -/
  | notModelled (mnemonic : String)
  /-- Raised by `JMP (aaaa)` with low address byte FFH where JMP_IND_WRAP has no value (R109). Safe. -/
  | jmpIndirectWrapUnset (pointer : Addr)
  /-- Raised by the start of a run with neither a reset vector nor a start pc (R231). Safe. -/
  | noStart
deriving DecidableEq, Repr

/-- The outcome of a step of this machine. -/
abbrev Out := Host.Outcome State Fault Refusal

/-- An environment with no request pending (log 17); where one came, it would be taken at once (R206; log 18). -/
def IrqInput.quiet : IrqInput := { pending := false, accept := true }

/-- A machine right after reset with the chip, the memory contents, the pc and what the environment drives given (R230 to
R234): `irq` at the first boundary, `irqNext` at the later ones (R233; log 17). I is 1 (R234; log 10); A, X, Y, SP, N, V, D, Z
and C have no value in the spec and are 0 here (DESIGN CHOICE, unsafe; log 9). -/
def State.initial (chip : Chip) (mem : Memory) (pc : Addr) (irq : IrqInput) (irqNext : List IrqInput) : State where
  a := 0
  x := 0
  y := 0
  sp := 0
  pc := pc
  p := { n := false, v := false, d := false, i := true, z := false, c := false }
  mem := mem
  irq := irq
  irqNext := irqNext
  draws := 0
  chip := chip

/-- The machine after reset: the default chip (log 2 to log 8), nothing in memory, at its start pc 0200H (R231; log 6), in an
environment that requests no interrupt (DESIGN CHOICE; log 17). -/
def State.reset : State := State.initial Chip.default [] 0x0200#16 IrqInput.quiet []

end Sys2Proof.Machine
end

