-- ==== Sys2Proof/Machine/Flags.lean ====
section
/-! DEFINITION. Every result and flag computation of the instructions, on bytes and flags alone (R27 to R29, R120 to R181). -/

namespace Sys2Proof.Machine

/-- `SetNZ` (R27). -/
def setNZ (r : Byte) (p : Flags) : Flags :=
  { p with n := r.getLsbD 7, z := decide (r = 0#8) }

/-- Binary addition A + M + C: the result and the flags (R120). V is the signed overflow (R29; log 28). -/
def adcBinary (a m : Byte) (p : Flags) : Byte × Flags :=
  let sum := a.toNat + m.toNat + p.c.toNat
  let r := BitVec.ofNat 8 sum
  (r, setNZ r { p with
    v := (a.getLsbD 7 == m.getLsbD 7) && (r.getLsbD 7 != a.getLsbD 7)
    c := decide (256 ≤ sum) })

/-- Binary subtraction as A + (M xor FFH) + C: the result and the flags (R164). C is 1 where no borrow occurred (R28). -/
def sbcBinary (a m : Byte) (p : Flags) : Byte × Flags :=
  let t := a.toNat + (m ^^^ 0xFF#8).toNat + p.c.toNat
  let r := BitVec.ofNat 8 t
  (r, setNZ r { p with
    v := (a.getLsbD 7 != m.getLsbD 7) && (r.getLsbD 7 != a.getLsbD 7)
    c := decide (256 ≤ t) })

/-- Both digits of a packed BCD byte are decimal digits (R180). -/
def validBcd (b : Byte) : Bool :=
  decide (b.toNat / 16 ≤ 9) && decide (b.toNat % 16 ≤ 9)

/-- The number a packed BCD byte stands for, `dec` of R180. -/
def decOf (b : Byte) : Nat := 10 * (b.toNat / 16) + b.toNat % 16

/-- The packed BCD byte of a number 0 to 99, `bcd` of R180. -/
def bcdOf (n : Nat) : Byte := BitVec.ofNat 8 (16 * (n / 10 % 16) + n % 10 % 16)

/-- Decimal addition of two valid BCD bytes: the result and the carry (R180; log 16). -/
def adcDecimal (a m : Byte) (carry : Bool) : Byte × Bool :=
  let sum := decOf a + decOf m + carry.toNat
  (bcdOf (sum % 100), decide (99 < sum))

/-- Decimal subtraction of two valid BCD bytes: the result and no-borrow (R181; log 16). -/
def sbcDecimal (a m : Byte) (carry : Bool) : Byte × Bool :=
  let diff : Int := (decOf a : Int) - decOf m - (1 - carry.toNat)
  (bcdOf (diff % 100).toNat, decide (0 ≤ diff))

/-- CMP, CPX, CPY: the flags of R - M, with no carry in (R137 to R139). -/
def compareFlags (r m : Byte) (p : Flags) : Flags :=
  setNZ (r - m) { p with c := decide (m.toNat ≤ r.toNat) }

/-- BIT: N and V from the memory byte, Z from A and M (R126; log 30). -/
def bitFlags (a m : Byte) (p : Flags) : Flags :=
  { p with n := m.getLsbD 7, v := m.getLsbD 6, z := decide (a &&& m = 0#8) }

/-- ASL: bit 7 to C, 0 into bit 0 (R122). -/
def aslResult (v : Byte) (p : Flags) : Byte × Flags :=
  let r := v <<< 1
  (r, setNZ r { p with c := v.getLsbD 7 })

/-- LSR: bit 0 to C, 0 into bit 7 (R153). -/
def lsrResult (v : Byte) (p : Flags) : Byte × Flags :=
  let r := v >>> 1
  (r, setNZ r { p with c := v.getLsbD 0 })

/-- ROL: the old C into bit 0, bit 7 to C (R160; log 29). -/
def rolResult (v : Byte) (p : Flags) : Byte × Flags :=
  let r := (v <<< 1) ||| (BitVec.ofBool p.c).setWidth 8
  (r, setNZ r { p with c := v.getLsbD 7 })

/-- ROR: the old C into bit 7, bit 0 to C (R161; log 29). -/
def rorResult (v : Byte) (p : Flags) : Byte × Flags :=
  let r := (v >>> 1) ||| ((BitVec.ofBool p.c).setWidth 8 <<< 7)
  (r, setNZ r { p with c := v.getLsbD 0 })

/-- INC (R144). -/
def incResult (v : Byte) (p : Flags) : Byte × Flags := (v + 1#8, setNZ (v + 1#8) p)

/-- DEC (R140). -/
def decResult (v : Byte) (p : Flags) : Byte × Flags := (v - 1#8, setNZ (v - 1#8) p)

/-- The byte with only bit n set, `1 << n` (R135, R145, R168). -/
def bitMask (n : Nat) : Byte := 1#8 <<< n

/-- CLR: bit n becomes 0, no flag changes (R135). -/
def clrResult (n : Nat) (v : Byte) (p : Flags) : Byte × Flags := (v &&& (0xFF#8 ^^^ bitMask n), p)

/-- INV: bit n is toggled, no flag changes (R145). -/
def invResult (n : Nat) (v : Byte) (p : Flags) : Byte × Flags := (v ^^^ bitMask n, p)

/-- SET: bit n becomes 1, no flag changes (R168). -/
def setResult (n : Nat) (v : Byte) (p : Flags) : Byte × Flags := (v ||| bitMask n, p)

/-- TST: Z is 1 where bit n is 0 (R174). -/
def tstFlags (n : Nat) (v : Byte) (p : Flags) : Flags := { p with z := !v.getLsbD n }

/-- The six flags of a pulled status byte; its bits 5 and 4 are ignored (R37). -/
def flagsOfByte (b : Byte) : Flags where
  n := b.getLsbD 7
  v := b.getLsbD 6
  d := b.getLsbD 3
  i := b.getLsbD 2
  z := b.getLsbD 1
  c := b.getLsbD 0

/-- The byte pushed for the status register: {N, V, u5, u4, bit3, I, Z, C} (R36). -/
def byteOfFlags (p : Flags) (u5 u4 bit3 : Bool) : Byte :=
  BitVec.ofBool p.n ++ BitVec.ofBool p.v ++ BitVec.ofBool u5 ++ BitVec.ofBool u4 ++ BitVec.ofBool bit3 ++
    BitVec.ofBool p.i ++ BitVec.ofBool p.z ++ BitVec.ofBool p.c

end Sys2Proof.Machine
end

