-- ==== Sys2Proof/Machine/Memory.lean ====
section
/-! DEFINITION. The memory as a list of cells in one canonical form (R40, R50; log 45). -/

namespace Sys2Proof.Machine

/-- The byte listed at an address, if one is. -/
def Memory.read? : Memory → Nat → Option Byte
  | [], _ => none
  | (k, v) :: rest, addr => if addr = k then some v else Memory.read? rest addr

/-- Store a byte, keeping the addresses strictly rising. -/
def Memory.write : Memory → Nat → Byte → Memory
  | [], addr, v => [(addr, v)]
  | (k, w) :: rest, addr, v =>
    if addr < k then (addr, v) :: (k, w) :: rest
    else if addr = k then (addr, v) :: rest
    else (k, w) :: Memory.write rest addr v

/-- Every listed address lies above `low` and the addresses rise strictly from there. -/
def Memory.risesFrom (low : Nat) : Memory → Bool
  | [] => true
  | (k, _) :: rest => decide (low ≤ k) && Memory.risesFrom (k + 1) rest

/-- The canonical form: addresses strictly rising, each one of the 65536 (R50). -/
def Memory.wf (m : Memory) : Bool :=
  Memory.risesFrom 0 m && m.all (fun cell => decide (cell.1 < 65536))

/-- A region holds an address. -/
def Region.holds (r : Region) (addr : Addr) : Bool :=
  decide (r.base.toNat ≤ addr.toNat) && decide (addr.toNat < r.base.toNat + r.size)

/-- The kind of an address under MEM (R63): that of the first region that holds it, else the kind `elsewhere` (log 41). -/
def kindIn (chip : Chip) (addr : Addr) : RegionKind :=
  match chip.regions.find? (fun r => Region.holds r addr) with
  | some r => r.kind
  | none => chip.elsewhere

/-- The kind of an address of this machine (R63). -/
def State.kindAt (s : State) (addr : Addr) : RegionKind := kindIn s.chip addr

/-- The byte a RAM or ROM address holds: the byte configured or last written; never written, unspecified (R63; log 11). -/
def State.byteAt (s : State) (addr : Addr) : Byte :=
  (Memory.read? s.mem addr.toNat).getD (Config.powerOnByte addr)

end Sys2Proof.Machine
end

