-- ==== Sys2Proof/Machine/Ops.lean ====
section
/-! DEFINITION. The named operations over memory and registers: byte accesses, free values, the stack, taking an
interrupt and returning from one, and the start of a run. -/

namespace Sys2Proof.Machine

/-- `{hi, lo}` as an address (R8, R53). -/
def addrOf (hi lo : Byte) : Addr := hi ++ lo

/-- Bits 15..8 of an address. -/
def hiByte (addr : Addr) : Byte := addr.extractLsb' 8 8

/-- Bits 7..0 of an address. -/
def loByte (addr : Addr) : Byte := addr.extractLsb' 0 8

/-- The page-zero address `{00H, aa}` (R83, R104). -/
def zeroPage (aa : Byte) : Addr := addrOf 0#8 aa

/-- The next free bit, `any1` (R9; log 14). -/
def drawBit (s : State) : Bool × State :=
  (Config.freeBit s.draws, { s with draws := s.draws + 1 })

/-- The next free byte, `any8` (R9; log 14). -/
def drawByte (s : State) : Byte × State :=
  (Config.freeByte s.draws, { s with draws := s.draws + 1 })

/-- `MemRead(addr, 1)` (R9, R63): ROM and RAM give the byte they hold, I/O a fresh free byte (log 13), an unmapped address
faults. -/
def memRead (s : State) (addr : Addr) : Except Fault (Byte × State) :=
  match s.kindAt addr with
  | .rom => .ok (s.byteAt addr, s)
  | .ram => .ok (s.byteAt addr, s)
  | .io => .ok (drawByte s)
  | .unmapped => .error (.unmappedRead addr)

/-- `MemWrite(addr, 1, v)` (R9, R63): RAM stores the byte, ROM and I/O are not changed (log 12, log 13), an unmapped
address faults. -/
def memWrite (s : State) (addr : Addr) (v : Byte) : Except Fault State :=
  match s.kindAt addr with
  | .rom => .ok s
  | .ram => .ok { s with mem := Memory.write s.mem addr.toNat v }
  | .io => .ok s
  | .unmapped => .error (.unmappedWrite addr)

/-- `Read16(lo_addr, hi_addr)` (R9): two byte reads, the low byte first. -/
def read16 (s : State) (loAddr hiAddr : Addr) : Except Fault (Addr × State) := do
  let (lo, s) ← memRead s loAddr
  let (hi, s) ← memRead s hiAddr
  return (addrOf hi lo, s)

/-- The address of the next free stack location, `{STACK_PAGE, SP}` (R25, R52). -/
def stackAddr (s : State) : Addr := addrOf s.chip.stackPage s.sp

/-- `Push(v)` (R30): store, then decrement SP modulo 256 (R33). -/
def push (s : State) (v : Byte) : Except Fault State := do
  let s ← memWrite s (stackAddr s) v
  return { s with sp := s.sp - 1#8 }

/-- `Pull()` (R31): increment SP modulo 256 (R33), then read. -/
def pull (s : State) : Except Fault (Byte × State) :=
  let s := { s with sp := s.sp + 1#8 }
  memRead s (stackAddr s)

/-- Push a 16-bit address, high byte first (R55; log 25). -/
def pushAddr (s : State) (addr : Addr) : Except Fault State := do
  let s ← push s (hiByte addr)
  push s (loByte addr)

/-- Pull a 16-bit address, low byte first (R55, R162, R163; log 25, log 26). -/
def pullAddr (s : State) : Except Fault (Addr × State) := do
  let (lo, s) ← pull s
  let (hi, s) ← pull s
  return (addrOf hi lo, s)

/-- The status register as the byte a push stores (R36): bits 5 and 4 are drawn, and so is bit 3 on CPU12, where D is
not read (R34; log 15). -/
def statusByte (s : State) : Byte × State :=
  let (u5, s) := drawBit s
  let (u4, s) := drawBit s
  match s.chip.cpu with
  | .cpu12 =>
    let (bit3, s) := drawBit s
    (byteOfFlags s.p u5 u4 bit3, s)
  | .t65b02 => (byteOfFlags s.p u5 u4 s.p.d, s)
  | .t65n02 => (byteOfFlags s.p u5 u4 s.p.d, s)
  | .t65r02 => (byteOfFlags s.p u5 u4 s.p.d, s)
  | .t65s02 => (byteOfFlags s.p u5 u4 s.p.d, s)

/-- Push the status register (R36). -/
def pushStatus (s : State) : Except Fault State :=
  let (b, s) := statusByte s
  push s b

/-- Pull the status register: all six flags from the pulled byte (R37). -/
def pullStatus (s : State) : Except Fault State := do
  let (b, s) ← pull s
  return { s with p := flagsOfByte b }

/-- Interrupt entry (R207; log 27, log 36): push pc, high byte first, push the status register with the old I, set I, and
load pc from the two bytes at IRQ_VECTOR. -/
def enterInterrupt (s : State) : Except Fault State := do
  let s ← pushAddr s s.pc
  let s ← pushStatus s
  let s := { s with p := { s.p with i := true } }
  match s.chip.irqVector with
  | none => .error .noIrqVector
  | some vector =>
    let (target, s) ← read16 s vector (vector + 1#16)
    return { s with pc := target }

/-- Return from interrupt (R162, R210; log 26): pull the status register, then pc low, then pc high, with no adjustment. -/
def returnFromInterrupt (s : State) : Except Fault State := do
  let s ← pullStatus s
  let (target, s) ← pullAddr s
  return { s with pc := target }

/-- An interrupt is taken at this boundary: the signal is pending, I is 0 and the environment chooses this boundary (R206;
log 18). -/
def interruptTaken (s : State) : Bool := !s.p.i && s.irq.pending && s.irq.accept

/-- The environment moves on to its input at the next boundary (R204, R205; log 17). -/
def nextInput (s : State) : State :=
  match s.irqNext with
  | [] => s
  | input :: rest => { s with irq := input, irqNext := rest }

/-- The next instruction in sequence: `pc <- (pc + len) mod 65536` (R24, R100). -/
def advance (s : State) (len : Nat) : State := { s with pc := s.pc + BitVec.ofNat 16 len }

/-- A finished instruction as the outcome of a step. -/
def outcome : Except Fault State → Out
  | .ok s => .next s
  | .error f => .fault f

/-- The start of a run (R230 to R234): the initial state with pc from the two bytes at RESET_VECTOR or the start pc given;
refused where the chip has neither (R231). The interrupt input is whatever the environment drives (R233). -/
def resetRun (chip : Chip) (mem : Memory) (irq : IrqInput) (irqNext : List IrqInput) : Out :=
  match chip.start with
  | none => .refused .noStart
  | some (.pc addr) => .next (State.initial chip mem addr irq irqNext)
  | some (.vector vector) =>
    match read16 (State.initial chip mem vector irq irqNext) vector (vector + 1#16) with
    | .ok (target, s) => .next { s with pc := target }
    | .error f => .fault f

end Sys2Proof.Machine
end

