-- ==== Sys2Proof/Machine/Operands.lean ====
section
/-! DEFINITION. Every operand form of the instructions and what it computes (R84, R100 to R112). -/

namespace Sys2Proof.Machine

/-- A memory operand by its addressing mode (R102 to R105, R108, R110). -/
inductive Place where
  /-- `aa` (R104), and `aa, n` of the bit instructions (R112). -/
  | zp (aa : Byte)
  /-- `aa, X` (R105). -/
  | zpx (aa : Byte)
  /-- `aa, Y` (R105). -/
  | zpy (aa : Byte)
  /-- `aaaa` (R102). -/
  | abs (aaaa : Addr)
  /-- `aaaa, X` (R103). -/
  | absx (aaaa : Addr)
  /-- `aaaa, Y` (R103). -/
  | absy (aaaa : Addr)
  /-- `(aa, X)` (R108). -/
  | indx (aa : Byte)
  /-- `(aa), Y` (R110). -/
  | indy (aa : Byte)
deriving DecidableEq, Repr

/-- A byte operand: immediate data (R101) or a byte of memory. -/
inductive Operand where
  | imm (dd : Byte)
  | mem (place : Place)
deriving DecidableEq, Repr

/-- The length of an instruction with this memory operand (R81, R84). -/
def placeLength : Place → Nat
  | .zp _ => 2
  | .zpx _ => 2
  | .zpy _ => 2
  | .abs _ => 3
  | .absx _ => 3
  | .absy _ => 3
  | .indx _ => 2
  | .indy _ => 2

/-- The length of an instruction with this operand (R81, R84). -/
def operandLength : Operand → Nat
  | .imm _ => 2
  | .mem place => placeLength place

/-- The two pointer bytes of a page-zero pointer, the second from `(p + 1) mod 256` (R108, R110; log 22). -/
def readPointer (s : State) (p : Byte) : Except Fault (Addr × State) :=
  read16 s (zeroPage p) (zeroPage (p + 1#8))

/-- The effective address of a memory operand (R102 to R105, R108, R110). Page-zero sums stay in page zero (log 22); 16-bit
sums wrap (log 23). The state is the one after the pointer reads. -/
def effAddr (s : State) : Place → Except Fault (Addr × State)
  | .zp aa => .ok (zeroPage aa, s)
  | .zpx aa => .ok (zeroPage (aa + s.x), s)
  | .zpy aa => .ok (zeroPage (aa + s.y), s)
  | .abs aaaa => .ok (aaaa, s)
  | .absx aaaa => .ok (aaaa + s.x.setWidth 16, s)
  | .absy aaaa => .ok (aaaa + s.y.setWidth 16, s)
  | .indx aa => readPointer s (aa + s.x)
  | .indy aa => do
    let (base, s) ← readPointer s aa
    return (base + s.y.setWidth 16, s)

/-- The operand byte M (R100, R101). -/
def readOperand (s : State) : Operand → Except Fault (Byte × State)
  | .imm dd => .ok (dd, s)
  | .mem place => do
    let (ea, s) ← effAddr s place
    memRead s ea

/-- The branch target `(pc + 2 + sext_16(rel)) mod 65536` (R111; log 24). -/
def branchTarget (s : State) (rel : Byte) : Addr := s.pc + 2#16 + rel.signExtend 16

/-- The address of the high byte of the pointer of `JMP (aaaa)` (R109): the next address, but for a pointer at the end of a
page, where JMP_IND_WRAP decides and may have no value (log 35). -/
def jmpPointerHigh (chip : Chip) (pointer : Addr) : Option Addr :=
  if loByte pointer = 0xFF#8 then
    match chip.jmpIndWrap with
    | some .carry => some (pointer + 1#16)
    | some .nocarry => some (addrOf (hiByte pointer) 0#8)
    | none => none
  else some (pointer + 1#16)

/-- An instruction that reads its operand and then changes registers and flags. -/
def readOp (o : Operand) (f : Byte → State → State) (s : State) : Out :=
  outcome do
    let (m, s) ← readOperand s o
    return advance (f m s) (operandLength o)

/-- An instruction that stores one byte at its effective address; the old contents are not read (R59). -/
def storeOp (place : Place) (v : State → Byte) (s : State) : Out :=
  outcome do
    let (ea, s) ← effAddr s place
    let s ← memWrite s ea (v s)
    return advance s (placeLength place)

/-- An instruction that reads the byte at its effective address, then writes its result there (R59, R100). -/
def modifyOp (place : Place) (f : Byte → Flags → Byte × Flags) (s : State) : Out :=
  outcome do
    let (ea, s) ← effAddr s place
    let (v, s) ← memRead s ea
    let (r, p) := f v s.p
    let s ← memWrite s ea r
    return advance { s with p := p } (placeLength place)

/-- An accumulator form: the operand is A and the result goes to A (R107). -/
def accumulatorOp (f : Byte → Flags → Byte × Flags) (s : State) : Out :=
  let (r, p) := f s.a s.p
  .next (advance { s with a := r, p := p } 1)

/-- An implied instruction that changes registers and flags only (R106). -/
def impliedOp (f : State → State) (s : State) : Out := .next (advance (f s) 1)

end Sys2Proof.Machine
end

