-- ==== Sys2Proof/Machine/Arithmetic.lean ====
section
/-! DEFINITION. The meanings of the arithmetic instructions and their decimal mode (R120, R137 to R142, R144, R146, R147, R164, R180, R181). -/

namespace Sys2Proof.Machine

/-- The flags and the count of draws after a decimal operation on valid digits: C is given; N, V and Z are written with
values the spec leaves open, drawn here (R180, R181; log 16). -/
def decimalValid (s : State) (r : Byte × Bool) : State :=
  let (n, s) := drawBit s
  let (v, s) := drawBit s
  let (z, s) := drawBit s
  { s with a := r.1, p := { s.p with n := n, v := v, z := z, c := r.2 } }

/-- A decimal operation where A or M has a digit above 9: A and the flags N, V, Z and C are all drawn (R180, R181; log 16). -/
def decimalInvalid (s : State) : State :=
  let (a, s) := drawByte s
  let (c, s) := drawBit s
  let (n, s) := drawBit s
  let (v, s) := drawBit s
  let (z, s) := drawBit s
  { s with a := a, p := { s.p with n := n, v := v, z := z, c := c } }

/-- ADC and SBC perform a decimal operation: D is set and the CPU type is not CPU12 (R34, R120, R164; log 33). -/
def decimalMode (s : State) : Bool := s.p.d && decide (s.chip.cpu ≠ .cpu12)

/-- ADC (R120, R180). -/
def addWithCarry (m : Byte) (s : State) : State :=
  if decimalMode s then
    if validBcd s.a && validBcd m then decimalValid s (adcDecimal s.a m s.p.c) else decimalInvalid s
  else
    let (r, p) := adcBinary s.a m s.p
    { s with a := r, p := p }

/-- SBC (R164, R181). -/
def subtractWithBorrow (m : Byte) (s : State) : State :=
  if decimalMode s then
    if validBcd s.a && validBcd m then decimalValid s (sbcDecimal s.a m s.p.c) else decimalInvalid s
  else
    let (r, p) := sbcBinary s.a m s.p
    { s with a := r, p := p }

/-- CMP (R137). -/
def compareA (m : Byte) (s : State) : State := { s with p := compareFlags s.a m s.p }

/-- CPX (R138). -/
def compareX (m : Byte) (s : State) : State := { s with p := compareFlags s.x m s.p }

/-- CPY (R139). -/
def compareY (m : Byte) (s : State) : State := { s with p := compareFlags s.y m s.p }

/-- INX (R146). -/
def incrementX (s : State) : State := { s with x := s.x + 1#8, p := setNZ (s.x + 1#8) s.p }

/-- INY (R147). -/
def incrementY (s : State) : State := { s with y := s.y + 1#8, p := setNZ (s.y + 1#8) s.p }

/-- DEX (R141). -/
def decrementX (s : State) : State := { s with x := s.x - 1#8, p := setNZ (s.x - 1#8) s.p }

/-- DEY (R142). -/
def decrementY (s : State) : State := { s with y := s.y - 1#8, p := setNZ (s.y - 1#8) s.p }

/-- `ADC #dd` (R120, R101). -/
def execAdcImm (dd : Byte) (s : State) : Out := readOp (.imm dd) addWithCarry s

/-- `ADC aa` (R120, R104). -/
def execAdcZp (aa : Byte) (s : State) : Out := readOp (.mem (.zp aa)) addWithCarry s

/-- `ADC aa, X` (R120, R105). -/
def execAdcZpx (aa : Byte) (s : State) : Out := readOp (.mem (.zpx aa)) addWithCarry s

/-- `ADC aaaa` (R120, R102). -/
def execAdcAbs (aaaa : Addr) (s : State) : Out := readOp (.mem (.abs aaaa)) addWithCarry s

/-- `ADC aaaa, X` (R120, R103). -/
def execAdcAbsx (aaaa : Addr) (s : State) : Out := readOp (.mem (.absx aaaa)) addWithCarry s

/-- `ADC aaaa, Y` (R120, R103). -/
def execAdcAbsy (aaaa : Addr) (s : State) : Out := readOp (.mem (.absy aaaa)) addWithCarry s

/-- `ADC (aa, X)` (R120, R108). -/
def execAdcIndx (aa : Byte) (s : State) : Out := readOp (.mem (.indx aa)) addWithCarry s

/-- `ADC (aa), Y` (R120, R110). -/
def execAdcIndy (aa : Byte) (s : State) : Out := readOp (.mem (.indy aa)) addWithCarry s

/-- `SBC #dd` (R164, R101). -/
def execSbcImm (dd : Byte) (s : State) : Out := readOp (.imm dd) subtractWithBorrow s

/-- `SBC aa` (R164, R104). -/
def execSbcZp (aa : Byte) (s : State) : Out := readOp (.mem (.zp aa)) subtractWithBorrow s

/-- `SBC aa, X` (R164, R105). -/
def execSbcZpx (aa : Byte) (s : State) : Out := readOp (.mem (.zpx aa)) subtractWithBorrow s

/-- `SBC aaaa` (R164, R102). -/
def execSbcAbs (aaaa : Addr) (s : State) : Out := readOp (.mem (.abs aaaa)) subtractWithBorrow s

/-- `SBC aaaa, X` (R164, R103). -/
def execSbcAbsx (aaaa : Addr) (s : State) : Out := readOp (.mem (.absx aaaa)) subtractWithBorrow s

/-- `SBC aaaa, Y` (R164, R103). -/
def execSbcAbsy (aaaa : Addr) (s : State) : Out := readOp (.mem (.absy aaaa)) subtractWithBorrow s

/-- `SBC (aa, X)` (R164, R108). -/
def execSbcIndx (aa : Byte) (s : State) : Out := readOp (.mem (.indx aa)) subtractWithBorrow s

/-- `SBC (aa), Y` (R164, R110). -/
def execSbcIndy (aa : Byte) (s : State) : Out := readOp (.mem (.indy aa)) subtractWithBorrow s

/-- `CMP #dd` (R137, R101). -/
def execCmpImm (dd : Byte) (s : State) : Out := readOp (.imm dd) compareA s

/-- `CMP aa` (R137, R104). -/
def execCmpZp (aa : Byte) (s : State) : Out := readOp (.mem (.zp aa)) compareA s

/-- `CMP aa, X` (R137, R105). -/
def execCmpZpx (aa : Byte) (s : State) : Out := readOp (.mem (.zpx aa)) compareA s

/-- `CMP aaaa` (R137, R102). -/
def execCmpAbs (aaaa : Addr) (s : State) : Out := readOp (.mem (.abs aaaa)) compareA s

/-- `CMP aaaa, X` (R137, R103). -/
def execCmpAbsx (aaaa : Addr) (s : State) : Out := readOp (.mem (.absx aaaa)) compareA s

/-- `CMP aaaa, Y` (R137, R103). -/
def execCmpAbsy (aaaa : Addr) (s : State) : Out := readOp (.mem (.absy aaaa)) compareA s

/-- `CMP (aa, X)` (R137, R108). -/
def execCmpIndx (aa : Byte) (s : State) : Out := readOp (.mem (.indx aa)) compareA s

/-- `CMP (aa), Y` (R137, R110). -/
def execCmpIndy (aa : Byte) (s : State) : Out := readOp (.mem (.indy aa)) compareA s

/-- `CPX #dd` (R138, R101). -/
def execCpxImm (dd : Byte) (s : State) : Out := readOp (.imm dd) compareX s

/-- `CPX aa` (R138, R104). -/
def execCpxZp (aa : Byte) (s : State) : Out := readOp (.mem (.zp aa)) compareX s

/-- `CPX aaaa` (R138, R102). -/
def execCpxAbs (aaaa : Addr) (s : State) : Out := readOp (.mem (.abs aaaa)) compareX s

/-- `CPY #dd` (R139, R101). -/
def execCpyImm (dd : Byte) (s : State) : Out := readOp (.imm dd) compareY s

/-- `CPY aa` (R139, R104). -/
def execCpyZp (aa : Byte) (s : State) : Out := readOp (.mem (.zp aa)) compareY s

/-- `CPY aaaa` (R139, R102). -/
def execCpyAbs (aaaa : Addr) (s : State) : Out := readOp (.mem (.abs aaaa)) compareY s

/-- `INC aa` (R144, R104). -/
def execIncZp (aa : Byte) (s : State) : Out := modifyOp (.zp aa) incResult s

/-- `INC aa, X` (R144, R105). -/
def execIncZpx (aa : Byte) (s : State) : Out := modifyOp (.zpx aa) incResult s

/-- `INC aaaa` (R144, R102). -/
def execIncAbs (aaaa : Addr) (s : State) : Out := modifyOp (.abs aaaa) incResult s

/-- `INC aaaa, X` (R144, R103). -/
def execIncAbsx (aaaa : Addr) (s : State) : Out := modifyOp (.absx aaaa) incResult s

/-- `DEC aa` (R140, R104). -/
def execDecZp (aa : Byte) (s : State) : Out := modifyOp (.zp aa) decResult s

/-- `DEC aa, X` (R140, R105). -/
def execDecZpx (aa : Byte) (s : State) : Out := modifyOp (.zpx aa) decResult s

/-- `DEC aaaa` (R140, R102). -/
def execDecAbs (aaaa : Addr) (s : State) : Out := modifyOp (.abs aaaa) decResult s

/-- `DEC aaaa, X` (R140, R103). -/
def execDecAbsx (aaaa : Addr) (s : State) : Out := modifyOp (.absx aaaa) decResult s

/-- `INX` (R146, R106). -/
def execInx (s : State) : Out := impliedOp incrementX s

/-- `INY` (R147, R106). -/
def execIny (s : State) : Out := impliedOp incrementY s

/-- `DEX` (R141, R106). -/
def execDex (s : State) : Out := impliedOp decrementX s

/-- `DEY` (R142, R106). -/
def execDey (s : State) : Out := impliedOp decrementY s

end Sys2Proof.Machine
end

