-- ==== Sys2Proof/Machine/BitOps.lean ====
section
/-! DEFINITION. The meanings of the zero-page bit instructions of the 65b02 (R135, R145, R168, R174). -/

namespace Sys2Proof.Machine

/-- TST (R174). -/
def testBit (n : Nat) (m : Byte) (s : State) : State := { s with p := tstFlags n m s.p }

/-- `CLR aa, 0` (R135, R112). -/
def execClr0 (aa : Byte) (s : State) : Out := modifyOp (.zp aa) (clrResult 0) s

/-- `CLR aa, 1` (R135, R112). -/
def execClr1 (aa : Byte) (s : State) : Out := modifyOp (.zp aa) (clrResult 1) s

/-- `CLR aa, 2` (R135, R112). -/
def execClr2 (aa : Byte) (s : State) : Out := modifyOp (.zp aa) (clrResult 2) s

/-- `CLR aa, 3` (R135, R112). -/
def execClr3 (aa : Byte) (s : State) : Out := modifyOp (.zp aa) (clrResult 3) s

/-- `CLR aa, 4` (R135, R112). -/
def execClr4 (aa : Byte) (s : State) : Out := modifyOp (.zp aa) (clrResult 4) s

/-- `CLR aa, 5` (R135, R112). -/
def execClr5 (aa : Byte) (s : State) : Out := modifyOp (.zp aa) (clrResult 5) s

/-- `CLR aa, 6` (R135, R112). -/
def execClr6 (aa : Byte) (s : State) : Out := modifyOp (.zp aa) (clrResult 6) s

/-- `CLR aa, 7` (R135, R112). -/
def execClr7 (aa : Byte) (s : State) : Out := modifyOp (.zp aa) (clrResult 7) s

/-- `INV aa, 0` (R145, R112). -/
def execInv0 (aa : Byte) (s : State) : Out := modifyOp (.zp aa) (invResult 0) s

/-- `INV aa, 1` (R145, R112). -/
def execInv1 (aa : Byte) (s : State) : Out := modifyOp (.zp aa) (invResult 1) s

/-- `INV aa, 2` (R145, R112). -/
def execInv2 (aa : Byte) (s : State) : Out := modifyOp (.zp aa) (invResult 2) s

/-- `INV aa, 3` (R145, R112). -/
def execInv3 (aa : Byte) (s : State) : Out := modifyOp (.zp aa) (invResult 3) s

/-- `INV aa, 4` (R145, R112). -/
def execInv4 (aa : Byte) (s : State) : Out := modifyOp (.zp aa) (invResult 4) s

/-- `INV aa, 5` (R145, R112). -/
def execInv5 (aa : Byte) (s : State) : Out := modifyOp (.zp aa) (invResult 5) s

/-- `INV aa, 6` (R145, R112). -/
def execInv6 (aa : Byte) (s : State) : Out := modifyOp (.zp aa) (invResult 6) s

/-- `INV aa, 7` (R145, R112). -/
def execInv7 (aa : Byte) (s : State) : Out := modifyOp (.zp aa) (invResult 7) s

/-- `SET aa, 0` (R168, R112). -/
def execSet0 (aa : Byte) (s : State) : Out := modifyOp (.zp aa) (setResult 0) s

/-- `SET aa, 1` (R168, R112). -/
def execSet1 (aa : Byte) (s : State) : Out := modifyOp (.zp aa) (setResult 1) s

/-- `SET aa, 2` (R168, R112). -/
def execSet2 (aa : Byte) (s : State) : Out := modifyOp (.zp aa) (setResult 2) s

/-- `SET aa, 3` (R168, R112). -/
def execSet3 (aa : Byte) (s : State) : Out := modifyOp (.zp aa) (setResult 3) s

/-- `SET aa, 4` (R168, R112). -/
def execSet4 (aa : Byte) (s : State) : Out := modifyOp (.zp aa) (setResult 4) s

/-- `SET aa, 5` (R168, R112). -/
def execSet5 (aa : Byte) (s : State) : Out := modifyOp (.zp aa) (setResult 5) s

/-- `SET aa, 6` (R168, R112). -/
def execSet6 (aa : Byte) (s : State) : Out := modifyOp (.zp aa) (setResult 6) s

/-- `SET aa, 7` (R168, R112). -/
def execSet7 (aa : Byte) (s : State) : Out := modifyOp (.zp aa) (setResult 7) s

/-- `TST aa, 0` (R174, R112). -/
def execTst0 (aa : Byte) (s : State) : Out := readOp (.mem (.zp aa)) (testBit 0) s

/-- `TST aa, 1` (R174, R112). -/
def execTst1 (aa : Byte) (s : State) : Out := readOp (.mem (.zp aa)) (testBit 1) s

/-- `TST aa, 2` (R174, R112). -/
def execTst2 (aa : Byte) (s : State) : Out := readOp (.mem (.zp aa)) (testBit 2) s

/-- `TST aa, 3` (R174, R112). -/
def execTst3 (aa : Byte) (s : State) : Out := readOp (.mem (.zp aa)) (testBit 3) s

/-- `TST aa, 4` (R174, R112). -/
def execTst4 (aa : Byte) (s : State) : Out := readOp (.mem (.zp aa)) (testBit 4) s

/-- `TST aa, 5` (R174, R112). -/
def execTst5 (aa : Byte) (s : State) : Out := readOp (.mem (.zp aa)) (testBit 5) s

/-- `TST aa, 6` (R174, R112). -/
def execTst6 (aa : Byte) (s : State) : Out := readOp (.mem (.zp aa)) (testBit 6) s

/-- `TST aa, 7` (R174, R112). -/
def execTst7 (aa : Byte) (s : State) : Out := readOp (.mem (.zp aa)) (testBit 7) s

end Sys2Proof.Machine
end

