-- ==== Sys2Proof/Machine/Branch.lean ====
section
/-! DEFINITION. The meanings of the eight branches (R123 to R125, R127 to R131). -/

namespace Sys2Proof.Machine

/-- A branch: to its target where the condition holds, else to the next instruction (R111, R123). -/
def branch (taken : Bool) (rel : Byte) (s : State) : Out :=
  .next (if taken then { s with pc := branchTarget s rel } else advance s 2)

/-- `BCC aa` (R123, R111). -/
def execBcc (rel : Byte) (s : State) : Out := branch (!s.p.c) rel s

/-- `BCS aa` (R124, R111). -/
def execBcs (rel : Byte) (s : State) : Out := branch (s.p.c) rel s

/-- `BEQ aa` (R125, R111). -/
def execBeq (rel : Byte) (s : State) : Out := branch (s.p.z) rel s

/-- `BMI aa` (R127, R111). -/
def execBmi (rel : Byte) (s : State) : Out := branch (s.p.n) rel s

/-- `BNE aa` (R128, R111). -/
def execBne (rel : Byte) (s : State) : Out := branch (!s.p.z) rel s

/-- `BPL aa` (R129, R111). -/
def execBpl (rel : Byte) (s : State) : Out := branch (!s.p.n) rel s

/-- `BVC aa` (R130, R111). -/
def execBvc (rel : Byte) (s : State) : Out := branch (!s.p.v) rel s

/-- `BVS aa` (R131, R111). -/
def execBvs (rel : Byte) (s : State) : Out := branch (s.p.v) rel s

end Sys2Proof.Machine
end

