-- ==== Sys2Proof/Machine/Control.lean ====
section
/-! DEFINITION. The meanings of the jumps, the subroutine and interrupt returns and the stack instructions (R148, R149, R156 to R159, R162, R163). -/

namespace Sys2Proof.Machine

/-- `JMP aaaa` (R148). -/
def jump (aaaa : Addr) (s : State) : Out := .next { s with pc := aaaa }

/-- `JMP (aaaa)` (R109, R148): refused where the pointer is at the end of a page and JMP_IND_WRAP has no value (log 35). -/
def jumpIndirect (aaaa : Addr) (s : State) : Out :=
  match jmpPointerHigh s.chip aaaa with
  | none => .refused (.jmpIndirectWrapUnset aaaa)
  | some high => outcome do
    let (target, s) ← read16 s aaaa high
    return { s with pc := target }

/-- JSR (R149; log 25): push the address of its own last byte, then jump. -/
def jumpSubroutine (aaaa : Addr) (s : State) : Out :=
  outcome do
    let s ← pushAddr s (s.pc + 2#16)
    return { s with pc := aaaa }

/-- RTS (R163; log 25): pull the saved address and continue one past it. -/
def returnSubroutine (s : State) : Out :=
  outcome do
    let (saved, s) ← pullAddr s
    return { s with pc := saved + 1#16 }

/-- PHA (R156). -/
def pushA (s : State) : Except Fault State := do
  let s ← push s s.a
  return advance s 1

/-- PHP (R157). -/
def pushP (s : State) : Except Fault State := do
  let s ← pushStatus s
  return advance s 1

/-- PLA (R158). -/
def pullA (s : State) : Except Fault State := do
  let (v, s) ← pull s
  return advance { s with a := v, p := setNZ v s.p } 1

/-- PLP (R159). -/
def pullP (s : State) : Except Fault State := do
  let s ← pullStatus s
  return advance s 1

/-- `JMP aaaa` (R148, R102). -/
def execJmpAbs (aaaa : Addr) (s : State) : Out := jump aaaa s

/-- `JMP (aaaa)` (R148, R109). -/
def execJmpInd (aaaa : Addr) (s : State) : Out := jumpIndirect aaaa s

/-- `JSR aaaa` (R149, R102). -/
def execJsr (aaaa : Addr) (s : State) : Out := jumpSubroutine aaaa s

/-- `RTS` (R163, R106). -/
def execRts (s : State) : Out := returnSubroutine s

/-- `RTI` (R162, R106). -/
def execRti (s : State) : Out := outcome (returnFromInterrupt s)

/-- `PHA` (R156, R106). -/
def execPha (s : State) : Out := outcome (pushA s)

/-- `PHP` (R157, R106). -/
def execPhp (s : State) : Out := outcome (pushP s)

/-- `PLA` (R158, R106). -/
def execPla (s : State) : Out := outcome (pullA s)

/-- `PLP` (R159, R106). -/
def execPlp (s : State) : Out := outcome (pullP s)

end Sys2Proof.Machine
end

