-- ==== Sys2Proof/Machine/FlagOps.lean ====
section
/-! DEFINITION. The meanings of the flag instructions and NOP (R132 to R134, R136, R154, R165 to R167). -/

namespace Sys2Proof.Machine

/-- CLC (R132). -/
def clearC (s : State) : State := { s with p := { s.p with c := false } }

/-- CLD (R133). -/
def clearD (s : State) : State := { s with p := { s.p with d := false } }

/-- CLI (R134). -/
def clearI (s : State) : State := { s with p := { s.p with i := false } }

/-- CLV (R136). -/
def clearV (s : State) : State := { s with p := { s.p with v := false } }

/-- SEC (R165). -/
def setC (s : State) : State := { s with p := { s.p with c := true } }

/-- SED (R166). -/
def setD (s : State) : State := { s with p := { s.p with d := true } }

/-- SEI (R167). -/
def setI (s : State) : State := { s with p := { s.p with i := true } }

/-- `CLC` (R132, R106). -/
def execClc (s : State) : Out := impliedOp clearC s

/-- `CLD` (R133, R106). -/
def execCld (s : State) : Out := impliedOp clearD s

/-- `CLI` (R134, R106). -/
def execCli (s : State) : Out := impliedOp clearI s

/-- `CLV` (R136, R106). -/
def execClv (s : State) : Out := impliedOp clearV s

/-- `SEC` (R165, R106). -/
def execSec (s : State) : Out := impliedOp setC s

/-- `SED` (R166, R106). -/
def execSed (s : State) : Out := impliedOp setD s

/-- `SEI` (R167, R106). -/
def execSei (s : State) : Out := impliedOp setI s

/-- `NOP` (R154, R106). -/
def execNop (s : State) : Out := impliedOp (fun s => s) s

end Sys2Proof.Machine
end

