-- ==== Sys2Proof/Machine/LoadStore.lean ====
section
/-! DEFINITION. The meanings of the loads and stores (R150 to R152, R169 to R171). -/

namespace Sys2Proof.Machine

/-- LDA (R150). -/
def loadA (m : Byte) (s : State) : State := { s with a := m, p := setNZ m s.p }

/-- LDX (R151). -/
def loadX (m : Byte) (s : State) : State := { s with x := m, p := setNZ m s.p }

/-- LDY (R152). -/
def loadY (m : Byte) (s : State) : State := { s with y := m, p := setNZ m s.p }

/-- `LDA #dd` (R150, R101). -/
def execLdaImm (dd : Byte) (s : State) : Out := readOp (.imm dd) loadA s

/-- `LDA aa` (R150, R104). -/
def execLdaZp (aa : Byte) (s : State) : Out := readOp (.mem (.zp aa)) loadA s

/-- `LDA aa, X` (R150, R105). -/
def execLdaZpx (aa : Byte) (s : State) : Out := readOp (.mem (.zpx aa)) loadA s

/-- `LDA aaaa` (R150, R102). -/
def execLdaAbs (aaaa : Addr) (s : State) : Out := readOp (.mem (.abs aaaa)) loadA s

/-- `LDA aaaa, X` (R150, R103). -/
def execLdaAbsx (aaaa : Addr) (s : State) : Out := readOp (.mem (.absx aaaa)) loadA s

/-- `LDA aaaa, Y` (R150, R103). -/
def execLdaAbsy (aaaa : Addr) (s : State) : Out := readOp (.mem (.absy aaaa)) loadA s

/-- `LDA (aa, X)` (R150, R108). -/
def execLdaIndx (aa : Byte) (s : State) : Out := readOp (.mem (.indx aa)) loadA s

/-- `LDA (aa), Y` (R150, R110). -/
def execLdaIndy (aa : Byte) (s : State) : Out := readOp (.mem (.indy aa)) loadA s

/-- `LDX #dd` (R151, R101). -/
def execLdxImm (dd : Byte) (s : State) : Out := readOp (.imm dd) loadX s

/-- `LDX aa` (R151, R104). -/
def execLdxZp (aa : Byte) (s : State) : Out := readOp (.mem (.zp aa)) loadX s

/-- `LDX aa, Y` (R151, R105). -/
def execLdxZpy (aa : Byte) (s : State) : Out := readOp (.mem (.zpy aa)) loadX s

/-- `LDX aaaa` (R151, R102). -/
def execLdxAbs (aaaa : Addr) (s : State) : Out := readOp (.mem (.abs aaaa)) loadX s

/-- `LDX aaaa, Y` (R151, R103). -/
def execLdxAbsy (aaaa : Addr) (s : State) : Out := readOp (.mem (.absy aaaa)) loadX s

/-- `LDY #dd` (R152, R101). -/
def execLdyImm (dd : Byte) (s : State) : Out := readOp (.imm dd) loadY s

/-- `LDY aa` (R152, R104). -/
def execLdyZp (aa : Byte) (s : State) : Out := readOp (.mem (.zp aa)) loadY s

/-- `LDY aa, X` (R152, R105). -/
def execLdyZpx (aa : Byte) (s : State) : Out := readOp (.mem (.zpx aa)) loadY s

/-- `LDY aaaa` (R152, R102). -/
def execLdyAbs (aaaa : Addr) (s : State) : Out := readOp (.mem (.abs aaaa)) loadY s

/-- `LDY aaaa, X` (R152, R103). -/
def execLdyAbsx (aaaa : Addr) (s : State) : Out := readOp (.mem (.absx aaaa)) loadY s

/-- `STA aa` (R169, R104). -/
def execStaZp (aa : Byte) (s : State) : Out := storeOp (.zp aa) State.a s

/-- `STA aa, X` (R169, R105). -/
def execStaZpx (aa : Byte) (s : State) : Out := storeOp (.zpx aa) State.a s

/-- `STA aaaa` (R169, R102). -/
def execStaAbs (aaaa : Addr) (s : State) : Out := storeOp (.abs aaaa) State.a s

/-- `STA aaaa, X` (R169, R103). -/
def execStaAbsx (aaaa : Addr) (s : State) : Out := storeOp (.absx aaaa) State.a s

/-- `STA aaaa, Y` (R169, R103). -/
def execStaAbsy (aaaa : Addr) (s : State) : Out := storeOp (.absy aaaa) State.a s

/-- `STA (aa, X)` (R169, R108). -/
def execStaIndx (aa : Byte) (s : State) : Out := storeOp (.indx aa) State.a s

/-- `STA (aa), Y` (R169, R110). -/
def execStaIndy (aa : Byte) (s : State) : Out := storeOp (.indy aa) State.a s

/-- `STX aa` (R170, R104). -/
def execStxZp (aa : Byte) (s : State) : Out := storeOp (.zp aa) State.x s

/-- `STX aa, Y` (R170, R105). -/
def execStxZpy (aa : Byte) (s : State) : Out := storeOp (.zpy aa) State.x s

/-- `STX aaaa` (R170, R102). -/
def execStxAbs (aaaa : Addr) (s : State) : Out := storeOp (.abs aaaa) State.x s

/-- `STY aa` (R171, R104). -/
def execStyZp (aa : Byte) (s : State) : Out := storeOp (.zp aa) State.y s

/-- `STY aa, X` (R171, R105). -/
def execStyZpx (aa : Byte) (s : State) : Out := storeOp (.zpx aa) State.y s

/-- `STY aaaa` (R171, R102). -/
def execStyAbs (aaaa : Addr) (s : State) : Out := storeOp (.abs aaaa) State.y s

end Sys2Proof.Machine
end

