-- ==== Sys2Proof/Machine/Logic.lean ====
section
/-! DEFINITION. The meanings of the bitwise instructions (R121, R126, R143, R155). -/

namespace Sys2Proof.Machine

/-- AND (R121). -/
def andToA (m : Byte) (s : State) : State := { s with a := s.a &&& m, p := setNZ (s.a &&& m) s.p }

/-- ORA (R155). -/
def orToA (m : Byte) (s : State) : State := { s with a := s.a ||| m, p := setNZ (s.a ||| m) s.p }

/-- EOR (R143). -/
def eorToA (m : Byte) (s : State) : State := { s with a := s.a ^^^ m, p := setNZ (s.a ^^^ m) s.p }

/-- BIT (R126). -/
def bitTest (m : Byte) (s : State) : State := { s with p := bitFlags s.a m s.p }

/-- `AND #dd` (R121, R101). -/
def execAndImm (dd : Byte) (s : State) : Out := readOp (.imm dd) andToA s

/-- `AND aa` (R121, R104). -/
def execAndZp (aa : Byte) (s : State) : Out := readOp (.mem (.zp aa)) andToA s

/-- `AND aa, X` (R121, R105). -/
def execAndZpx (aa : Byte) (s : State) : Out := readOp (.mem (.zpx aa)) andToA s

/-- `AND aaaa` (R121, R102). -/
def execAndAbs (aaaa : Addr) (s : State) : Out := readOp (.mem (.abs aaaa)) andToA s

/-- `AND aaaa, X` (R121, R103). -/
def execAndAbsx (aaaa : Addr) (s : State) : Out := readOp (.mem (.absx aaaa)) andToA s

/-- `AND aaaa, Y` (R121, R103). -/
def execAndAbsy (aaaa : Addr) (s : State) : Out := readOp (.mem (.absy aaaa)) andToA s

/-- `AND (aa, X)` (R121, R108). -/
def execAndIndx (aa : Byte) (s : State) : Out := readOp (.mem (.indx aa)) andToA s

/-- `AND (aa), Y` (R121, R110). -/
def execAndIndy (aa : Byte) (s : State) : Out := readOp (.mem (.indy aa)) andToA s

/-- `ORA #dd` (R155, R101). -/
def execOraImm (dd : Byte) (s : State) : Out := readOp (.imm dd) orToA s

/-- `ORA aa` (R155, R104). -/
def execOraZp (aa : Byte) (s : State) : Out := readOp (.mem (.zp aa)) orToA s

/-- `ORA aa, X` (R155, R105). -/
def execOraZpx (aa : Byte) (s : State) : Out := readOp (.mem (.zpx aa)) orToA s

/-- `ORA aaaa` (R155, R102). -/
def execOraAbs (aaaa : Addr) (s : State) : Out := readOp (.mem (.abs aaaa)) orToA s

/-- `ORA aaaa, X` (R155, R103). -/
def execOraAbsx (aaaa : Addr) (s : State) : Out := readOp (.mem (.absx aaaa)) orToA s

/-- `ORA aaaa, Y` (R155, R103). -/
def execOraAbsy (aaaa : Addr) (s : State) : Out := readOp (.mem (.absy aaaa)) orToA s

/-- `ORA (aa, X)` (R155, R108). -/
def execOraIndx (aa : Byte) (s : State) : Out := readOp (.mem (.indx aa)) orToA s

/-- `ORA (aa), Y` (R155, R110). -/
def execOraIndy (aa : Byte) (s : State) : Out := readOp (.mem (.indy aa)) orToA s

/-- `EOR #dd` (R143, R101). -/
def execEorImm (dd : Byte) (s : State) : Out := readOp (.imm dd) eorToA s

/-- `EOR aa` (R143, R104). -/
def execEorZp (aa : Byte) (s : State) : Out := readOp (.mem (.zp aa)) eorToA s

/-- `EOR aa, X` (R143, R105). -/
def execEorZpx (aa : Byte) (s : State) : Out := readOp (.mem (.zpx aa)) eorToA s

/-- `EOR aaaa` (R143, R102). -/
def execEorAbs (aaaa : Addr) (s : State) : Out := readOp (.mem (.abs aaaa)) eorToA s

/-- `EOR aaaa, X` (R143, R103). -/
def execEorAbsx (aaaa : Addr) (s : State) : Out := readOp (.mem (.absx aaaa)) eorToA s

/-- `EOR aaaa, Y` (R143, R103). -/
def execEorAbsy (aaaa : Addr) (s : State) : Out := readOp (.mem (.absy aaaa)) eorToA s

/-- `EOR (aa, X)` (R143, R108). -/
def execEorIndx (aa : Byte) (s : State) : Out := readOp (.mem (.indx aa)) eorToA s

/-- `EOR (aa), Y` (R143, R110). -/
def execEorIndy (aa : Byte) (s : State) : Out := readOp (.mem (.indy aa)) eorToA s

/-- `BIT aa` (R126, R104). -/
def execBitZp (aa : Byte) (s : State) : Out := readOp (.mem (.zp aa)) bitTest s

/-- `BIT aaaa` (R126, R102). -/
def execBitAbs (aaaa : Addr) (s : State) : Out := readOp (.mem (.abs aaaa)) bitTest s

end Sys2Proof.Machine
end

