-- ==== Sys2Proof/Machine/Shift.lean ====
section
/-! DEFINITION. The meanings of the shifts and rotates (R122, R153, R160, R161). -/

namespace Sys2Proof.Machine

/-- `ASL A` (R122, R107). -/
def execAslAcc (s : State) : Out := accumulatorOp aslResult s

/-- `ASL aa` (R122, R104). -/
def execAslZp (aa : Byte) (s : State) : Out := modifyOp (.zp aa) aslResult s

/-- `ASL aa, X` (R122, R105). -/
def execAslZpx (aa : Byte) (s : State) : Out := modifyOp (.zpx aa) aslResult s

/-- `ASL aaaa` (R122, R102). -/
def execAslAbs (aaaa : Addr) (s : State) : Out := modifyOp (.abs aaaa) aslResult s

/-- `ASL aaaa, X` (R122, R103). -/
def execAslAbsx (aaaa : Addr) (s : State) : Out := modifyOp (.absx aaaa) aslResult s

/-- `LSR A` (R153, R107). -/
def execLsrAcc (s : State) : Out := accumulatorOp lsrResult s

/-- `LSR aa` (R153, R104). -/
def execLsrZp (aa : Byte) (s : State) : Out := modifyOp (.zp aa) lsrResult s

/-- `LSR aa, X` (R153, R105). -/
def execLsrZpx (aa : Byte) (s : State) : Out := modifyOp (.zpx aa) lsrResult s

/-- `LSR aaaa` (R153, R102). -/
def execLsrAbs (aaaa : Addr) (s : State) : Out := modifyOp (.abs aaaa) lsrResult s

/-- `LSR aaaa, X` (R153, R103). -/
def execLsrAbsx (aaaa : Addr) (s : State) : Out := modifyOp (.absx aaaa) lsrResult s

/-- `ROL A` (R160, R107). -/
def execRolAcc (s : State) : Out := accumulatorOp rolResult s

/-- `ROL aa` (R160, R104). -/
def execRolZp (aa : Byte) (s : State) : Out := modifyOp (.zp aa) rolResult s

/-- `ROL aa, X` (R160, R105). -/
def execRolZpx (aa : Byte) (s : State) : Out := modifyOp (.zpx aa) rolResult s

/-- `ROL aaaa` (R160, R102). -/
def execRolAbs (aaaa : Addr) (s : State) : Out := modifyOp (.abs aaaa) rolResult s

/-- `ROL aaaa, X` (R160, R103). -/
def execRolAbsx (aaaa : Addr) (s : State) : Out := modifyOp (.absx aaaa) rolResult s

/-- `ROR A` (R161, R107). -/
def execRorAcc (s : State) : Out := accumulatorOp rorResult s

/-- `ROR aa` (R161, R104). -/
def execRorZp (aa : Byte) (s : State) : Out := modifyOp (.zp aa) rorResult s

/-- `ROR aa, X` (R161, R105). -/
def execRorZpx (aa : Byte) (s : State) : Out := modifyOp (.zpx aa) rorResult s

/-- `ROR aaaa` (R161, R102). -/
def execRorAbs (aaaa : Addr) (s : State) : Out := modifyOp (.abs aaaa) rorResult s

/-- `ROR aaaa, X` (R161, R103). -/
def execRorAbsx (aaaa : Addr) (s : State) : Out := modifyOp (.absx aaaa) rorResult s

end Sys2Proof.Machine
end

