-- ==== Sys2Proof/Machine/Transfer.lean ====
section
/-! DEFINITION. The meanings of the register transfers (R172, R173, R175 to R178). -/

namespace Sys2Proof.Machine

/-- TAX (R172). -/
def transferAX (s : State) : State := { s with x := s.a, p := setNZ s.a s.p }

/-- TAY (R173). -/
def transferAY (s : State) : State := { s with y := s.a, p := setNZ s.a s.p }

/-- TSX (R175). -/
def transferSX (s : State) : State := { s with x := s.sp, p := setNZ s.sp s.p }

/-- TXA (R176). -/
def transferXA (s : State) : State := { s with a := s.x, p := setNZ s.x s.p }

/-- TXS sets no flags (R177). -/
def transferXS (s : State) : State := { s with sp := s.x }

/-- TYA (R178). -/
def transferYA (s : State) : State := { s with a := s.y, p := setNZ s.y s.p }

/-- `TAX` (R172, R106). -/
def execTax (s : State) : Out := impliedOp transferAX s

/-- `TAY` (R173, R106). -/
def execTay (s : State) : Out := impliedOp transferAY s

/-- `TSX` (R175, R106). -/
def execTsx (s : State) : Out := impliedOp transferSX s

/-- `TXA` (R176, R106). -/
def execTxa (s : State) : Out := impliedOp transferXA s

/-- `TXS` (R177, R106). -/
def execTxs (s : State) : Out := impliedOp transferXS s

/-- `TYA` (R178, R106). -/
def execTya (s : State) : Out := impliedOp transferYA s

end Sys2Proof.Machine
end

