-- ==== Sys2Proof/Machine/Dispatch.lean ====
section
/-! DEFINITION. What each instruction does: one arm per row of the opcode table (R86). -/

namespace Sys2Proof.Machine

def exec (i : Instr) (s : State) : Host.Outcome State Fault Refusal :=
  match i with
  | .adcImm dd => Sys2Proof.Machine.execAdcImm dd s
  | .adcZp aa => Sys2Proof.Machine.execAdcZp aa s
  | .adcZpx aa => Sys2Proof.Machine.execAdcZpx aa s
  | .adcAbs aaaa => Sys2Proof.Machine.execAdcAbs aaaa s
  | .adcAbsx aaaa => Sys2Proof.Machine.execAdcAbsx aaaa s
  | .adcAbsy aaaa => Sys2Proof.Machine.execAdcAbsy aaaa s
  | .adcIndx aa => Sys2Proof.Machine.execAdcIndx aa s
  | .adcIndy aa => Sys2Proof.Machine.execAdcIndy aa s
  | .andImm dd => Sys2Proof.Machine.execAndImm dd s
  | .andZp aa => Sys2Proof.Machine.execAndZp aa s
  | .andZpx aa => Sys2Proof.Machine.execAndZpx aa s
  | .andAbs aaaa => Sys2Proof.Machine.execAndAbs aaaa s
  | .andAbsx aaaa => Sys2Proof.Machine.execAndAbsx aaaa s
  | .andAbsy aaaa => Sys2Proof.Machine.execAndAbsy aaaa s
  | .andIndx aa => Sys2Proof.Machine.execAndIndx aa s
  | .andIndy aa => Sys2Proof.Machine.execAndIndy aa s
  | .aslAcc => Sys2Proof.Machine.execAslAcc s
  | .aslZp aa => Sys2Proof.Machine.execAslZp aa s
  | .aslZpx aa => Sys2Proof.Machine.execAslZpx aa s
  | .aslAbs aaaa => Sys2Proof.Machine.execAslAbs aaaa s
  | .aslAbsx aaaa => Sys2Proof.Machine.execAslAbsx aaaa s
  | .bcc rel => Sys2Proof.Machine.execBcc rel s
  | .bcs rel => Sys2Proof.Machine.execBcs rel s
  | .beq rel => Sys2Proof.Machine.execBeq rel s
  | .bmi rel => Sys2Proof.Machine.execBmi rel s
  | .bne rel => Sys2Proof.Machine.execBne rel s
  | .bpl rel => Sys2Proof.Machine.execBpl rel s
  | .bvc rel => Sys2Proof.Machine.execBvc rel s
  | .bvs rel => Sys2Proof.Machine.execBvs rel s
  | .bitZp aa => Sys2Proof.Machine.execBitZp aa s
  | .bitAbs aaaa => Sys2Proof.Machine.execBitAbs aaaa s
  | .clc => Sys2Proof.Machine.execClc s
  | .cld => Sys2Proof.Machine.execCld s
  | .cli => Sys2Proof.Machine.execCli s
  | .clr0 aa => Sys2Proof.Machine.execClr0 aa s
  | .clr1 aa => Sys2Proof.Machine.execClr1 aa s
  | .clr2 aa => Sys2Proof.Machine.execClr2 aa s
  | .clr3 aa => Sys2Proof.Machine.execClr3 aa s
  | .clr4 aa => Sys2Proof.Machine.execClr4 aa s
  | .clr5 aa => Sys2Proof.Machine.execClr5 aa s
  | .clr6 aa => Sys2Proof.Machine.execClr6 aa s
  | .clr7 aa => Sys2Proof.Machine.execClr7 aa s
  | .clv => Sys2Proof.Machine.execClv s
  | .cmpImm dd => Sys2Proof.Machine.execCmpImm dd s
  | .cmpZp aa => Sys2Proof.Machine.execCmpZp aa s
  | .cmpZpx aa => Sys2Proof.Machine.execCmpZpx aa s
  | .cmpAbs aaaa => Sys2Proof.Machine.execCmpAbs aaaa s
  | .cmpAbsx aaaa => Sys2Proof.Machine.execCmpAbsx aaaa s
  | .cmpAbsy aaaa => Sys2Proof.Machine.execCmpAbsy aaaa s
  | .cmpIndx aa => Sys2Proof.Machine.execCmpIndx aa s
  | .cmpIndy aa => Sys2Proof.Machine.execCmpIndy aa s
  | .cpxImm dd => Sys2Proof.Machine.execCpxImm dd s
  | .cpxZp aa => Sys2Proof.Machine.execCpxZp aa s
  | .cpxAbs aaaa => Sys2Proof.Machine.execCpxAbs aaaa s
  | .cpyImm dd => Sys2Proof.Machine.execCpyImm dd s
  | .cpyZp aa => Sys2Proof.Machine.execCpyZp aa s
  | .cpyAbs aaaa => Sys2Proof.Machine.execCpyAbs aaaa s
  | .decZp aa => Sys2Proof.Machine.execDecZp aa s
  | .decZpx aa => Sys2Proof.Machine.execDecZpx aa s
  | .decAbs aaaa => Sys2Proof.Machine.execDecAbs aaaa s
  | .decAbsx aaaa => Sys2Proof.Machine.execDecAbsx aaaa s
  | .dex => Sys2Proof.Machine.execDex s
  | .dey => Sys2Proof.Machine.execDey s
  | .eorImm dd => Sys2Proof.Machine.execEorImm dd s
  | .eorZp aa => Sys2Proof.Machine.execEorZp aa s
  | .eorZpx aa => Sys2Proof.Machine.execEorZpx aa s
  | .eorAbs aaaa => Sys2Proof.Machine.execEorAbs aaaa s
  | .eorAbsx aaaa => Sys2Proof.Machine.execEorAbsx aaaa s
  | .eorAbsy aaaa => Sys2Proof.Machine.execEorAbsy aaaa s
  | .eorIndx aa => Sys2Proof.Machine.execEorIndx aa s
  | .eorIndy aa => Sys2Proof.Machine.execEorIndy aa s
  | .incZp aa => Sys2Proof.Machine.execIncZp aa s
  | .incZpx aa => Sys2Proof.Machine.execIncZpx aa s
  | .incAbs aaaa => Sys2Proof.Machine.execIncAbs aaaa s
  | .incAbsx aaaa => Sys2Proof.Machine.execIncAbsx aaaa s
  | .inv0 aa => Sys2Proof.Machine.execInv0 aa s
  | .inv1 aa => Sys2Proof.Machine.execInv1 aa s
  | .inv2 aa => Sys2Proof.Machine.execInv2 aa s
  | .inv3 aa => Sys2Proof.Machine.execInv3 aa s
  | .inv4 aa => Sys2Proof.Machine.execInv4 aa s
  | .inv5 aa => Sys2Proof.Machine.execInv5 aa s
  | .inv6 aa => Sys2Proof.Machine.execInv6 aa s
  | .inv7 aa => Sys2Proof.Machine.execInv7 aa s
  | .inx => Sys2Proof.Machine.execInx s
  | .iny => Sys2Proof.Machine.execIny s
  | .jmpAbs aaaa => Sys2Proof.Machine.execJmpAbs aaaa s
  | .jmpInd aaaa => Sys2Proof.Machine.execJmpInd aaaa s
  | .jsr aaaa => Sys2Proof.Machine.execJsr aaaa s
  | .ldaImm dd => Sys2Proof.Machine.execLdaImm dd s
  | .ldaZp aa => Sys2Proof.Machine.execLdaZp aa s
  | .ldaZpx aa => Sys2Proof.Machine.execLdaZpx aa s
  | .ldaAbs aaaa => Sys2Proof.Machine.execLdaAbs aaaa s
  | .ldaAbsx aaaa => Sys2Proof.Machine.execLdaAbsx aaaa s
  | .ldaAbsy aaaa => Sys2Proof.Machine.execLdaAbsy aaaa s
  | .ldaIndx aa => Sys2Proof.Machine.execLdaIndx aa s
  | .ldaIndy aa => Sys2Proof.Machine.execLdaIndy aa s
  | .ldxImm dd => Sys2Proof.Machine.execLdxImm dd s
  | .ldxZp aa => Sys2Proof.Machine.execLdxZp aa s
  | .ldxZpy aa => Sys2Proof.Machine.execLdxZpy aa s
  | .ldxAbs aaaa => Sys2Proof.Machine.execLdxAbs aaaa s
  | .ldxAbsy aaaa => Sys2Proof.Machine.execLdxAbsy aaaa s
  | .ldyImm dd => Sys2Proof.Machine.execLdyImm dd s
  | .ldyZp aa => Sys2Proof.Machine.execLdyZp aa s
  | .ldyZpx aa => Sys2Proof.Machine.execLdyZpx aa s
  | .ldyAbs aaaa => Sys2Proof.Machine.execLdyAbs aaaa s
  | .ldyAbsx aaaa => Sys2Proof.Machine.execLdyAbsx aaaa s
  | .lsrAcc => Sys2Proof.Machine.execLsrAcc s
  | .lsrZp aa => Sys2Proof.Machine.execLsrZp aa s
  | .lsrZpx aa => Sys2Proof.Machine.execLsrZpx aa s
  | .lsrAbs aaaa => Sys2Proof.Machine.execLsrAbs aaaa s
  | .lsrAbsx aaaa => Sys2Proof.Machine.execLsrAbsx aaaa s
  | .nop => Sys2Proof.Machine.execNop s
  | .oraImm dd => Sys2Proof.Machine.execOraImm dd s
  | .oraZp aa => Sys2Proof.Machine.execOraZp aa s
  | .oraZpx aa => Sys2Proof.Machine.execOraZpx aa s
  | .oraAbs aaaa => Sys2Proof.Machine.execOraAbs aaaa s
  | .oraAbsx aaaa => Sys2Proof.Machine.execOraAbsx aaaa s
  | .oraAbsy aaaa => Sys2Proof.Machine.execOraAbsy aaaa s
  | .oraIndx aa => Sys2Proof.Machine.execOraIndx aa s
  | .oraIndy aa => Sys2Proof.Machine.execOraIndy aa s
  | .pha => Sys2Proof.Machine.execPha s
  | .php => Sys2Proof.Machine.execPhp s
  | .pla => Sys2Proof.Machine.execPla s
  | .plp => Sys2Proof.Machine.execPlp s
  | .rolAcc => Sys2Proof.Machine.execRolAcc s
  | .rolZp aa => Sys2Proof.Machine.execRolZp aa s
  | .rolZpx aa => Sys2Proof.Machine.execRolZpx aa s
  | .rolAbs aaaa => Sys2Proof.Machine.execRolAbs aaaa s
  | .rolAbsx aaaa => Sys2Proof.Machine.execRolAbsx aaaa s
  | .rorAcc => Sys2Proof.Machine.execRorAcc s
  | .rorZp aa => Sys2Proof.Machine.execRorZp aa s
  | .rorZpx aa => Sys2Proof.Machine.execRorZpx aa s
  | .rorAbs aaaa => Sys2Proof.Machine.execRorAbs aaaa s
  | .rorAbsx aaaa => Sys2Proof.Machine.execRorAbsx aaaa s
  | .rti => Sys2Proof.Machine.execRti s
  | .rts => Sys2Proof.Machine.execRts s
  | .sbcImm dd => Sys2Proof.Machine.execSbcImm dd s
  | .sbcZp aa => Sys2Proof.Machine.execSbcZp aa s
  | .sbcZpx aa => Sys2Proof.Machine.execSbcZpx aa s
  | .sbcAbs aaaa => Sys2Proof.Machine.execSbcAbs aaaa s
  | .sbcAbsx aaaa => Sys2Proof.Machine.execSbcAbsx aaaa s
  | .sbcAbsy aaaa => Sys2Proof.Machine.execSbcAbsy aaaa s
  | .sbcIndx aa => Sys2Proof.Machine.execSbcIndx aa s
  | .sbcIndy aa => Sys2Proof.Machine.execSbcIndy aa s
  | .sec => Sys2Proof.Machine.execSec s
  | .sed => Sys2Proof.Machine.execSed s
  | .sei => Sys2Proof.Machine.execSei s
  | .set0 aa => Sys2Proof.Machine.execSet0 aa s
  | .set1 aa => Sys2Proof.Machine.execSet1 aa s
  | .set2 aa => Sys2Proof.Machine.execSet2 aa s
  | .set3 aa => Sys2Proof.Machine.execSet3 aa s
  | .set4 aa => Sys2Proof.Machine.execSet4 aa s
  | .set5 aa => Sys2Proof.Machine.execSet5 aa s
  | .set6 aa => Sys2Proof.Machine.execSet6 aa s
  | .set7 aa => Sys2Proof.Machine.execSet7 aa s
  | .staZp aa => Sys2Proof.Machine.execStaZp aa s
  | .staZpx aa => Sys2Proof.Machine.execStaZpx aa s
  | .staAbs aaaa => Sys2Proof.Machine.execStaAbs aaaa s
  | .staAbsx aaaa => Sys2Proof.Machine.execStaAbsx aaaa s
  | .staAbsy aaaa => Sys2Proof.Machine.execStaAbsy aaaa s
  | .staIndx aa => Sys2Proof.Machine.execStaIndx aa s
  | .staIndy aa => Sys2Proof.Machine.execStaIndy aa s
  | .stxZp aa => Sys2Proof.Machine.execStxZp aa s
  | .stxZpy aa => Sys2Proof.Machine.execStxZpy aa s
  | .stxAbs aaaa => Sys2Proof.Machine.execStxAbs aaaa s
  | .styZp aa => Sys2Proof.Machine.execStyZp aa s
  | .styZpx aa => Sys2Proof.Machine.execStyZpx aa s
  | .styAbs aaaa => Sys2Proof.Machine.execStyAbs aaaa s
  | .tax => Sys2Proof.Machine.execTax s
  | .tay => Sys2Proof.Machine.execTay s
  | .tst0 aa => Sys2Proof.Machine.execTst0 aa s
  | .tst1 aa => Sys2Proof.Machine.execTst1 aa s
  | .tst2 aa => Sys2Proof.Machine.execTst2 aa s
  | .tst3 aa => Sys2Proof.Machine.execTst3 aa s
  | .tst4 aa => Sys2Proof.Machine.execTst4 aa s
  | .tst5 aa => Sys2Proof.Machine.execTst5 aa s
  | .tst6 aa => Sys2Proof.Machine.execTst6 aa s
  | .tst7 aa => Sys2Proof.Machine.execTst7 aa s
  | .tsx => Sys2Proof.Machine.execTsx s
  | .txa => Sys2Proof.Machine.execTxa s
  | .txs => Sys2Proof.Machine.execTxs s
  | .tya => Sys2Proof.Machine.execTya s

end Sys2Proof.Machine
end

