-- ==== Sys2Proof/WellFormed.lean ====
section
/-! DEFINITION. Which instructions a CPU type has (R3, R86, R98). Every operand value is encodable, so availability is the
only check. -/

namespace Sys2Proof

/-- The four patterns of the availability columns of the opcode table (R86). -/
inductive Availability where
  /-- Every CPU type. -/
  | every
  /-- 65b02, 65n02, 65r02 and CPU12. -/
  | allBut65s02
  /-- 65b02 and 65n02. -/
  | full
  /-- 65b02. -/
  | only65b02
deriving DecidableEq, Repr

/-- A CPU type has the instructions of a pattern (R86). -/
def Availability.has : Availability → CpuType → Bool
  | .every, _ => true
  | .allBut65s02, .t65s02 => false
  | .allBut65s02, .t65b02 => true
  | .allBut65s02, .t65n02 => true
  | .allBut65s02, .t65r02 => true
  | .allBut65s02, .cpu12 => true
  | .full, .t65b02 => true
  | .full, .t65n02 => true
  | .full, .t65r02 => false
  | .full, .t65s02 => false
  | .full, .cpu12 => false
  | .only65b02, .t65b02 => true
  | .only65b02, .t65n02 => false
  | .only65b02, .t65r02 => false
  | .only65b02, .t65s02 => false
  | .only65b02, .cpu12 => false

/-- The availability columns of an instruction's row (R86). -/
def Instr.availability : Instr → Availability
  | .adcImm _ => .every
  | .adcZp _ => .every
  | .adcZpx _ => .full
  | .adcAbs _ => .full
  | .adcAbsx _ => .full
  | .adcAbsy _ => .full
  | .adcIndx _ => .full
  | .adcIndy _ => .full
  | .andImm _ => .every
  | .andZp _ => .every
  | .andZpx _ => .full
  | .andAbs _ => .full
  | .andAbsx _ => .full
  | .andAbsy _ => .full
  | .andIndx _ => .full
  | .andIndy _ => .full
  | .aslAcc => .full
  | .aslZp _ => .full
  | .aslZpx _ => .full
  | .aslAbs _ => .full
  | .aslAbsx _ => .full
  | .bcc _ => .every
  | .bcs _ => .every
  | .beq _ => .every
  | .bmi _ => .every
  | .bne _ => .every
  | .bpl _ => .every
  | .bvc _ => .every
  | .bvs _ => .every
  | .bitZp _ => .allBut65s02
  | .bitAbs _ => .allBut65s02
  | .clc => .every
  | .cld => .full
  | .cli => .every
  | .clr0 _ => .only65b02
  | .clr1 _ => .only65b02
  | .clr2 _ => .only65b02
  | .clr3 _ => .only65b02
  | .clr4 _ => .only65b02
  | .clr5 _ => .only65b02
  | .clr6 _ => .only65b02
  | .clr7 _ => .only65b02
  | .clv => .every
  | .cmpImm _ => .every
  | .cmpZp _ => .every
  | .cmpZpx _ => .every
  | .cmpAbs _ => .full
  | .cmpAbsx _ => .full
  | .cmpAbsy _ => .full
  | .cmpIndx _ => .full
  | .cmpIndy _ => .full
  | .cpxImm _ => .every
  | .cpxZp _ => .every
  | .cpxAbs _ => .full
  | .cpyImm _ => .full
  | .cpyZp _ => .full
  | .cpyAbs _ => .full
  | .decZp _ => .every
  | .decZpx _ => .allBut65s02
  | .decAbs _ => .full
  | .decAbsx _ => .full
  | .dex => .every
  | .dey => .full
  | .eorImm _ => .every
  | .eorZp _ => .every
  | .eorZpx _ => .allBut65s02
  | .eorAbs _ => .full
  | .eorAbsx _ => .full
  | .eorAbsy _ => .full
  | .eorIndx _ => .full
  | .eorIndy _ => .full
  | .incZp _ => .every
  | .incZpx _ => .full
  | .incAbs _ => .full
  | .incAbsx _ => .full
  | .inv0 _ => .only65b02
  | .inv1 _ => .only65b02
  | .inv2 _ => .only65b02
  | .inv3 _ => .only65b02
  | .inv4 _ => .only65b02
  | .inv5 _ => .only65b02
  | .inv6 _ => .only65b02
  | .inv7 _ => .only65b02
  | .inx => .every
  | .iny => .full
  | .jmpAbs _ => .every
  | .jmpInd _ => .every
  | .jsr _ => .every
  | .ldaImm _ => .every
  | .ldaZp _ => .every
  | .ldaZpx _ => .every
  | .ldaAbs _ => .every
  | .ldaAbsx _ => .every
  | .ldaAbsy _ => .full
  | .ldaIndx _ => .every
  | .ldaIndy _ => .full
  | .ldxImm _ => .every
  | .ldxZp _ => .every
  | .ldxZpy _ => .full
  | .ldxAbs _ => .allBut65s02
  | .ldxAbsy _ => .full
  | .ldyImm _ => .full
  | .ldyZp _ => .full
  | .ldyZpx _ => .full
  | .ldyAbs _ => .full
  | .ldyAbsx _ => .full
  | .lsrAcc => .full
  | .lsrZp _ => .full
  | .lsrZpx _ => .full
  | .lsrAbs _ => .full
  | .lsrAbsx _ => .full
  | .nop => .every
  | .oraImm _ => .every
  | .oraZp _ => .every
  | .oraZpx _ => .full
  | .oraAbs _ => .full
  | .oraAbsx _ => .full
  | .oraAbsy _ => .full
  | .oraIndx _ => .full
  | .oraIndy _ => .full
  | .pha => .every
  | .php => .every
  | .pla => .every
  | .plp => .every
  | .rolAcc => .every
  | .rolZp _ => .every
  | .rolZpx _ => .full
  | .rolAbs _ => .full
  | .rolAbsx _ => .full
  | .rorAcc => .every
  | .rorZp _ => .every
  | .rorZpx _ => .full
  | .rorAbs _ => .full
  | .rorAbsx _ => .full
  | .rti => .every
  | .rts => .every
  | .sbcImm _ => .every
  | .sbcZp _ => .every
  | .sbcZpx _ => .full
  | .sbcAbs _ => .full
  | .sbcAbsx _ => .full
  | .sbcAbsy _ => .full
  | .sbcIndx _ => .full
  | .sbcIndy _ => .full
  | .sec => .every
  | .sed => .full
  | .sei => .every
  | .set0 _ => .only65b02
  | .set1 _ => .only65b02
  | .set2 _ => .only65b02
  | .set3 _ => .only65b02
  | .set4 _ => .only65b02
  | .set5 _ => .only65b02
  | .set6 _ => .only65b02
  | .set7 _ => .only65b02
  | .staZp _ => .every
  | .staZpx _ => .every
  | .staAbs _ => .full
  | .staAbsx _ => .full
  | .staAbsy _ => .full
  | .staIndx _ => .every
  | .staIndy _ => .full
  | .stxZp _ => .every
  | .stxZpy _ => .full
  | .stxAbs _ => .every
  | .styZp _ => .full
  | .styZpx _ => .full
  | .styAbs _ => .full
  | .tax => .allBut65s02
  | .tay => .full
  | .tst0 _ => .only65b02
  | .tst1 _ => .only65b02
  | .tst2 _ => .only65b02
  | .tst3 _ => .only65b02
  | .tst4 _ => .only65b02
  | .tst5 _ => .only65b02
  | .tst6 _ => .only65b02
  | .tst7 _ => .only65b02
  | .tsx => .every
  | .txa => .allBut65s02
  | .txs => .every
  | .tya => .full

/-- The instruction exists on the CPU type: its cell is not X (R86, R89). -/
def Instr.wellFormed (cpu : CpuType) (i : Instr) : Bool := i.availability.has cpu

end Sys2Proof
end

