-- ==== Sys2Proof/Decode.lean ====
section
/-! DEFINITION. The decoder and the encoder, from the opcode table (R81 to R86). -/

namespace Sys2Proof

/-- What an opcode byte selects: an instruction still waiting for its operand bytes (R81: formats F1, F2, F3). -/
inductive Form where
  /-- F1: no operand byte. -/
  | one (i : Instr)
  /-- F2: one operand byte. -/
  | two (i : Byte → Instr)
  /-- F3: a 16-bit operand, low byte first (log 21). -/
  | three (i : Addr → Instr)

/-- A row of the opcode table: the opcode byte in each map (R85, R86). -/
structure Row where
  std : Byte
  sun : Byte
  form : Form

/-- The opcode byte of a row in a map (R85). -/
def Row.opcode (r : Row) : OpMap → Byte
  | .std => r.std
  | .sun => r.sun

/-- Rows 1 to 26 of the opcode table (R86). -/
def rows1 : List Row := [
  ⟨0x69#8, 0x56#8, .two .adcImm⟩,
  ⟨0x65#8, 0x17#8, .two .adcZp⟩,
  ⟨0x75#8, 0x1F#8, .two .adcZpx⟩,
  ⟨0x6D#8, 0x57#8, .three .adcAbs⟩,
  ⟨0x7D#8, 0x5F#8, .three .adcAbsx⟩,
  ⟨0x79#8, 0x5E#8, .three .adcAbsy⟩,
  ⟨0x61#8, 0x16#8, .two .adcIndx⟩,
  ⟨0x71#8, 0x1E#8, .two .adcIndy⟩,
  ⟨0x29#8, 0x54#8, .two .andImm⟩,
  ⟨0x25#8, 0x15#8, .two .andZp⟩,
  ⟨0x35#8, 0x1D#8, .two .andZpx⟩,
  ⟨0x2D#8, 0x55#8, .three .andAbs⟩,
  ⟨0x3D#8, 0x5D#8, .three .andAbsx⟩,
  ⟨0x39#8, 0x5C#8, .three .andAbsy⟩,
  ⟨0x21#8, 0x14#8, .two .andIndx⟩,
  ⟨0x31#8, 0x1C#8, .two .andIndy⟩,
  ⟨0x0A#8, 0xC0#8, .one .aslAcc⟩,
  ⟨0x06#8, 0x81#8, .two .aslZp⟩,
  ⟨0x16#8, 0x89#8, .two .aslZpx⟩,
  ⟨0x0E#8, 0xC1#8, .three .aslAbs⟩,
  ⟨0x1E#8, 0xC9#8, .three .aslAbsx⟩,
  ⟨0x90#8, 0x28#8, .two .bcc⟩,
  ⟨0xB0#8, 0x38#8, .two .bcs⟩,
  ⟨0xF0#8, 0x3A#8, .two .beq⟩,
  ⟨0x30#8, 0x18#8, .two .bmi⟩,
  ⟨0xD0#8, 0x2A#8, .two .bne⟩]

/-- Rows 27 to 52 of the opcode table (R86). -/
def rows2 : List Row := [
  ⟨0x10#8, 0x08#8, .two .bpl⟩,
  ⟨0x50#8, 0x0A#8, .two .bvc⟩,
  ⟨0x70#8, 0x1A#8, .two .bvs⟩,
  ⟨0x24#8, 0x11#8, .two .bitZp⟩,
  ⟨0x2C#8, 0x51#8, .three .bitAbs⟩,
  ⟨0x18#8, 0x48#8, .one .clc⟩,
  ⟨0xD8#8, 0x6A#8, .one .cld⟩,
  ⟨0x58#8, 0x4A#8, .one .cli⟩,
  ⟨0x0F#8, 0xC5#8, .two .clr0⟩,
  ⟨0x1F#8, 0xCD#8, .two .clr1⟩,
  ⟨0x2F#8, 0xD5#8, .two .clr2⟩,
  ⟨0x3F#8, 0xDD#8, .two .clr3⟩,
  ⟨0x4F#8, 0xC7#8, .two .clr4⟩,
  ⟨0x5F#8, 0xCF#8, .two .clr5⟩,
  ⟨0x6F#8, 0xD7#8, .two .clr6⟩,
  ⟨0x7F#8, 0xDF#8, .two .clr7⟩,
  ⟨0xB8#8, 0x78#8, .one .clv⟩,
  ⟨0xC9#8, 0x66#8, .two .cmpImm⟩,
  ⟨0xC5#8, 0x27#8, .two .cmpZp⟩,
  ⟨0xD5#8, 0x2F#8, .two .cmpZpx⟩,
  ⟨0xCD#8, 0x67#8, .three .cmpAbs⟩,
  ⟨0xDD#8, 0x6F#8, .three .cmpAbsx⟩,
  ⟨0xD9#8, 0x6E#8, .three .cmpAbsy⟩,
  ⟨0xC1#8, 0x26#8, .two .cmpIndx⟩,
  ⟨0xD1#8, 0x2E#8, .two .cmpIndy⟩,
  ⟨0xE0#8, 0x32#8, .two .cpxImm⟩]

/-- Rows 53 to 78 of the opcode table (R86). -/
def rows3 : List Row := [
  ⟨0xE4#8, 0x33#8, .two .cpxZp⟩,
  ⟨0xEC#8, 0x73#8, .three .cpxAbs⟩,
  ⟨0xC0#8, 0x22#8, .two .cpyImm⟩,
  ⟨0xC4#8, 0x23#8, .two .cpyZp⟩,
  ⟨0xCC#8, 0x63#8, .three .cpyAbs⟩,
  ⟨0xC6#8, 0xA3#8, .two .decZp⟩,
  ⟨0xD6#8, 0xAB#8, .two .decZpx⟩,
  ⟨0xCE#8, 0xE3#8, .three .decAbs⟩,
  ⟨0xDE#8, 0xEB#8, .three .decAbsx⟩,
  ⟨0xCA#8, 0xE2#8, .one .dex⟩,
  ⟨0x88#8, 0x60#8, .one .dey⟩,
  ⟨0x49#8, 0x46#8, .two .eorImm⟩,
  ⟨0x45#8, 0x07#8, .two .eorZp⟩,
  ⟨0x55#8, 0x0F#8, .two .eorZpx⟩,
  ⟨0x4D#8, 0x47#8, .three .eorAbs⟩,
  ⟨0x5D#8, 0x4F#8, .three .eorAbsx⟩,
  ⟨0x59#8, 0x4E#8, .three .eorAbsy⟩,
  ⟨0x41#8, 0x06#8, .two .eorIndx⟩,
  ⟨0x51#8, 0x0E#8, .two .eorIndy⟩,
  ⟨0xE6#8, 0xB3#8, .two .incZp⟩,
  ⟨0xF6#8, 0xBB#8, .two .incZpx⟩,
  ⟨0xEE#8, 0xF3#8, .three .incAbs⟩,
  ⟨0xFE#8, 0xFB#8, .three .incAbsx⟩,
  ⟨0x87#8, 0xA5#8, .two .inv0⟩,
  ⟨0x97#8, 0xAD#8, .two .inv1⟩,
  ⟨0xA7#8, 0xB5#8, .two .inv2⟩]

/-- Rows 79 to 104 of the opcode table (R86). -/
def rows4 : List Row := [
  ⟨0xB7#8, 0xBD#8, .two .inv3⟩,
  ⟨0xC7#8, 0xA7#8, .two .inv4⟩,
  ⟨0xD7#8, 0xAF#8, .two .inv5⟩,
  ⟨0xE7#8, 0xB7#8, .two .inv6⟩,
  ⟨0xF7#8, 0xBF#8, .two .inv7⟩,
  ⟨0xE8#8, 0x72#8, .one .inx⟩,
  ⟨0xC8#8, 0x62#8, .one .iny⟩,
  ⟨0x4C#8, 0x43#8, .three .jmpAbs⟩,
  ⟨0x6C#8, 0x53#8, .three .jmpInd⟩,
  ⟨0x20#8, 0x10#8, .three .jsr⟩,
  ⟨0xA9#8, 0x74#8, .two .ldaImm⟩,
  ⟨0xA5#8, 0x35#8, .two .ldaZp⟩,
  ⟨0xB5#8, 0x3D#8, .two .ldaZpx⟩,
  ⟨0xAD#8, 0x75#8, .three .ldaAbs⟩,
  ⟨0xBD#8, 0x7D#8, .three .ldaAbsx⟩,
  ⟨0xB9#8, 0x7C#8, .three .ldaAbsy⟩,
  ⟨0xA1#8, 0x34#8, .two .ldaIndx⟩,
  ⟨0xB1#8, 0x3C#8, .two .ldaIndy⟩,
  ⟨0xA2#8, 0xB0#8, .two .ldxImm⟩,
  ⟨0xA6#8, 0xB1#8, .two .ldxZp⟩,
  ⟨0xB6#8, 0xB9#8, .two .ldxZpy⟩,
  ⟨0xAE#8, 0xF1#8, .three .ldxAbs⟩,
  ⟨0xBE#8, 0xF9#8, .three .ldxAbsy⟩,
  ⟨0xA0#8, 0x30#8, .two .ldyImm⟩,
  ⟨0xA4#8, 0x31#8, .two .ldyZp⟩,
  ⟨0xB4#8, 0x39#8, .two .ldyZpx⟩]

/-- Rows 105 to 130 of the opcode table (R86). -/
def rows5 : List Row := [
  ⟨0xAC#8, 0x71#8, .three .ldyAbs⟩,
  ⟨0xBC#8, 0x79#8, .three .ldyAbsx⟩,
  ⟨0x4A#8, 0xC2#8, .one .lsrAcc⟩,
  ⟨0x46#8, 0x83#8, .two .lsrZp⟩,
  ⟨0x56#8, 0x8B#8, .two .lsrZpx⟩,
  ⟨0x4E#8, 0xC3#8, .three .lsrAbs⟩,
  ⟨0x5E#8, 0xCB#8, .three .lsrAbsx⟩,
  ⟨0xEA#8, 0xF2#8, .one .nop⟩,
  ⟨0x09#8, 0x44#8, .two .oraImm⟩,
  ⟨0x05#8, 0x05#8, .two .oraZp⟩,
  ⟨0x15#8, 0x0D#8, .two .oraZpx⟩,
  ⟨0x0D#8, 0x45#8, .three .oraAbs⟩,
  ⟨0x1D#8, 0x4D#8, .three .oraAbsx⟩,
  ⟨0x19#8, 0x4C#8, .three .oraAbsy⟩,
  ⟨0x01#8, 0x04#8, .two .oraIndx⟩,
  ⟨0x11#8, 0x0C#8, .two .oraIndy⟩,
  ⟨0x48#8, 0x42#8, .one .pha⟩,
  ⟨0x08#8, 0x40#8, .one .php⟩,
  ⟨0x68#8, 0x52#8, .one .pla⟩,
  ⟨0x28#8, 0x50#8, .one .plp⟩,
  ⟨0x2A#8, 0xD0#8, .one .rolAcc⟩,
  ⟨0x26#8, 0x91#8, .two .rolZp⟩,
  ⟨0x36#8, 0x99#8, .two .rolZpx⟩,
  ⟨0x2E#8, 0xD1#8, .three .rolAbs⟩,
  ⟨0x3E#8, 0xD9#8, .three .rolAbsx⟩,
  ⟨0x6A#8, 0xD2#8, .one .rorAcc⟩]

/-- Rows 131 to 156 of the opcode table (R86). -/
def rows6 : List Row := [
  ⟨0x66#8, 0x93#8, .two .rorZp⟩,
  ⟨0x76#8, 0x9B#8, .two .rorZpx⟩,
  ⟨0x6E#8, 0xD3#8, .three .rorAbs⟩,
  ⟨0x7E#8, 0xDB#8, .three .rorAbsx⟩,
  ⟨0x40#8, 0x02#8, .one .rti⟩,
  ⟨0x60#8, 0x12#8, .one .rts⟩,
  ⟨0xE9#8, 0x76#8, .two .sbcImm⟩,
  ⟨0xE5#8, 0x37#8, .two .sbcZp⟩,
  ⟨0xF5#8, 0x3F#8, .two .sbcZpx⟩,
  ⟨0xED#8, 0x77#8, .three .sbcAbs⟩,
  ⟨0xFD#8, 0x7F#8, .three .sbcAbsx⟩,
  ⟨0xF9#8, 0x7E#8, .three .sbcAbsy⟩,
  ⟨0xE1#8, 0x36#8, .two .sbcIndx⟩,
  ⟨0xF1#8, 0x3E#8, .two .sbcIndy⟩,
  ⟨0x38#8, 0x58#8, .one .sec⟩,
  ⟨0xF8#8, 0x7A#8, .one .sed⟩,
  ⟨0x78#8, 0x5A#8, .one .sei⟩,
  ⟨0x8F#8, 0xE5#8, .two .set0⟩,
  ⟨0x9F#8, 0xED#8, .two .set1⟩,
  ⟨0xAF#8, 0xF5#8, .two .set2⟩,
  ⟨0xBF#8, 0xFD#8, .two .set3⟩,
  ⟨0xCF#8, 0xE7#8, .two .set4⟩,
  ⟨0xDF#8, 0xEF#8, .two .set5⟩,
  ⟨0xEF#8, 0xF7#8, .two .set6⟩,
  ⟨0xFF#8, 0xFF#8, .two .set7⟩,
  ⟨0x85#8, 0x25#8, .two .staZp⟩]

/-- Rows 157 to 182 of the opcode table (R86). -/
def rows7 : List Row := [
  ⟨0x95#8, 0x2D#8, .two .staZpx⟩,
  ⟨0x8D#8, 0x65#8, .three .staAbs⟩,
  ⟨0x9D#8, 0x6D#8, .three .staAbsx⟩,
  ⟨0x99#8, 0x6C#8, .three .staAbsy⟩,
  ⟨0x81#8, 0x24#8, .two .staIndx⟩,
  ⟨0x91#8, 0x2C#8, .two .staIndy⟩,
  ⟨0x86#8, 0xA1#8, .two .stxZp⟩,
  ⟨0x96#8, 0xA9#8, .two .stxZpy⟩,
  ⟨0x8E#8, 0xE1#8, .three .stxAbs⟩,
  ⟨0x84#8, 0x21#8, .two .styZp⟩,
  ⟨0x94#8, 0x29#8, .two .styZpx⟩,
  ⟨0x8C#8, 0x61#8, .three .styAbs⟩,
  ⟨0xAA#8, 0xF0#8, .one .tax⟩,
  ⟨0xA8#8, 0x70#8, .one .tay⟩,
  ⟨0x07#8, 0x85#8, .two .tst0⟩,
  ⟨0x17#8, 0x8D#8, .two .tst1⟩,
  ⟨0x27#8, 0x95#8, .two .tst2⟩,
  ⟨0x37#8, 0x9D#8, .two .tst3⟩,
  ⟨0x47#8, 0x87#8, .two .tst4⟩,
  ⟨0x57#8, 0x8F#8, .two .tst5⟩,
  ⟨0x67#8, 0x97#8, .two .tst6⟩,
  ⟨0x77#8, 0x9F#8, .two .tst7⟩,
  ⟨0xBA#8, 0xF8#8, .one .tsx⟩,
  ⟨0x8A#8, 0xE0#8, .one .txa⟩,
  ⟨0x9A#8, 0xE8#8, .one .txs⟩,
  ⟨0x98#8, 0x68#8, .one .tya⟩]

/-- The opcode table (R86). -/
def opcodeRows : List Row := rows1 ++ rows2 ++ rows3 ++ rows4 ++ rows5 ++ rows6 ++ rows7

/-- What an opcode byte selects in a map; `none` for an unassigned byte (R82, R88). -/
def decodeOpcode (map : OpMap) (b : Byte) : Option Form :=
  (opcodeRows.find? (fun r => r.opcode map == b)).map Row.form

/-- An instruction of the form, for its row's data. -/
def Form.sample : Form → Instr
  | .one i => i
  | .two i => i 0#8
  | .three i => i 0#16

/-- Why bytes are no instruction. -/
inductive DecodeError where
  /-- The bytes end before the instruction does. -/
  | truncated
  /-- The opcode byte has no row in the map (R88). -/
  | illegalOpcode (opcode : Byte)
deriving DecidableEq, Repr

/-- Decode the first instruction of the bytes and give the bytes after it (R81, R82, R83). -/
def decode (map : OpMap) : List Byte → Except DecodeError (Instr × List Byte)
  | [] => .error .truncated
  | b :: rest =>
    match decodeOpcode map b with
    | none => .error (.illegalOpcode b)
    | some (.one i) => .ok (i, rest)
    | some (.two i) =>
      match rest with
      | b1 :: rest => .ok (i b1, rest)
      | [] => .error .truncated
    | some (.three i) =>
      match rest with
      | b1 :: b2 :: rest => .ok (i (b2 ++ b1), rest)
      | [_] => .error .truncated
      | [] => .error .truncated

/-- The bytes of an opcode-table word of `nbits` bits, first byte first; the bits above `nbits` are 0. -/
def tableBytes (nbits w : Nat) : List Byte :=
  let v := w % 2 ^ nbits
  [BitVec.ofNat 8 v, BitVec.ofNat 8 (v / 256), BitVec.ofNat 8 (v / 65536)]

/-- The instruction the decoder reads from an opcode-table word; the table numbers the opcodes of the map STD. -/
def decodeTableWord (nbits w : Nat) : Option Instr :=
  match decode .std (tableBytes nbits w) with
  | .ok (i, _) => some i
  | .error _ => none

/-- The two opcode bytes of an instruction's row, STD and SUN (R86). -/
def Instr.opcodes : Instr → Byte × Byte
  | .adcImm _ => (0x69#8, 0x56#8)
  | .adcZp _ => (0x65#8, 0x17#8)
  | .adcZpx _ => (0x75#8, 0x1F#8)
  | .adcAbs _ => (0x6D#8, 0x57#8)
  | .adcAbsx _ => (0x7D#8, 0x5F#8)
  | .adcAbsy _ => (0x79#8, 0x5E#8)
  | .adcIndx _ => (0x61#8, 0x16#8)
  | .adcIndy _ => (0x71#8, 0x1E#8)
  | .andImm _ => (0x29#8, 0x54#8)
  | .andZp _ => (0x25#8, 0x15#8)
  | .andZpx _ => (0x35#8, 0x1D#8)
  | .andAbs _ => (0x2D#8, 0x55#8)
  | .andAbsx _ => (0x3D#8, 0x5D#8)
  | .andAbsy _ => (0x39#8, 0x5C#8)
  | .andIndx _ => (0x21#8, 0x14#8)
  | .andIndy _ => (0x31#8, 0x1C#8)
  | .aslAcc => (0x0A#8, 0xC0#8)
  | .aslZp _ => (0x06#8, 0x81#8)
  | .aslZpx _ => (0x16#8, 0x89#8)
  | .aslAbs _ => (0x0E#8, 0xC1#8)
  | .aslAbsx _ => (0x1E#8, 0xC9#8)
  | .bcc _ => (0x90#8, 0x28#8)
  | .bcs _ => (0xB0#8, 0x38#8)
  | .beq _ => (0xF0#8, 0x3A#8)
  | .bmi _ => (0x30#8, 0x18#8)
  | .bne _ => (0xD0#8, 0x2A#8)
  | .bpl _ => (0x10#8, 0x08#8)
  | .bvc _ => (0x50#8, 0x0A#8)
  | .bvs _ => (0x70#8, 0x1A#8)
  | .bitZp _ => (0x24#8, 0x11#8)
  | .bitAbs _ => (0x2C#8, 0x51#8)
  | .clc => (0x18#8, 0x48#8)
  | .cld => (0xD8#8, 0x6A#8)
  | .cli => (0x58#8, 0x4A#8)
  | .clr0 _ => (0x0F#8, 0xC5#8)
  | .clr1 _ => (0x1F#8, 0xCD#8)
  | .clr2 _ => (0x2F#8, 0xD5#8)
  | .clr3 _ => (0x3F#8, 0xDD#8)
  | .clr4 _ => (0x4F#8, 0xC7#8)
  | .clr5 _ => (0x5F#8, 0xCF#8)
  | .clr6 _ => (0x6F#8, 0xD7#8)
  | .clr7 _ => (0x7F#8, 0xDF#8)
  | .clv => (0xB8#8, 0x78#8)
  | .cmpImm _ => (0xC9#8, 0x66#8)
  | .cmpZp _ => (0xC5#8, 0x27#8)
  | .cmpZpx _ => (0xD5#8, 0x2F#8)
  | .cmpAbs _ => (0xCD#8, 0x67#8)
  | .cmpAbsx _ => (0xDD#8, 0x6F#8)
  | .cmpAbsy _ => (0xD9#8, 0x6E#8)
  | .cmpIndx _ => (0xC1#8, 0x26#8)
  | .cmpIndy _ => (0xD1#8, 0x2E#8)
  | .cpxImm _ => (0xE0#8, 0x32#8)
  | .cpxZp _ => (0xE4#8, 0x33#8)
  | .cpxAbs _ => (0xEC#8, 0x73#8)
  | .cpyImm _ => (0xC0#8, 0x22#8)
  | .cpyZp _ => (0xC4#8, 0x23#8)
  | .cpyAbs _ => (0xCC#8, 0x63#8)
  | .decZp _ => (0xC6#8, 0xA3#8)
  | .decZpx _ => (0xD6#8, 0xAB#8)
  | .decAbs _ => (0xCE#8, 0xE3#8)
  | .decAbsx _ => (0xDE#8, 0xEB#8)
  | .dex => (0xCA#8, 0xE2#8)
  | .dey => (0x88#8, 0x60#8)
  | .eorImm _ => (0x49#8, 0x46#8)
  | .eorZp _ => (0x45#8, 0x07#8)
  | .eorZpx _ => (0x55#8, 0x0F#8)
  | .eorAbs _ => (0x4D#8, 0x47#8)
  | .eorAbsx _ => (0x5D#8, 0x4F#8)
  | .eorAbsy _ => (0x59#8, 0x4E#8)
  | .eorIndx _ => (0x41#8, 0x06#8)
  | .eorIndy _ => (0x51#8, 0x0E#8)
  | .incZp _ => (0xE6#8, 0xB3#8)
  | .incZpx _ => (0xF6#8, 0xBB#8)
  | .incAbs _ => (0xEE#8, 0xF3#8)
  | .incAbsx _ => (0xFE#8, 0xFB#8)
  | .inv0 _ => (0x87#8, 0xA5#8)
  | .inv1 _ => (0x97#8, 0xAD#8)
  | .inv2 _ => (0xA7#8, 0xB5#8)
  | .inv3 _ => (0xB7#8, 0xBD#8)
  | .inv4 _ => (0xC7#8, 0xA7#8)
  | .inv5 _ => (0xD7#8, 0xAF#8)
  | .inv6 _ => (0xE7#8, 0xB7#8)
  | .inv7 _ => (0xF7#8, 0xBF#8)
  | .inx => (0xE8#8, 0x72#8)
  | .iny => (0xC8#8, 0x62#8)
  | .jmpAbs _ => (0x4C#8, 0x43#8)
  | .jmpInd _ => (0x6C#8, 0x53#8)
  | .jsr _ => (0x20#8, 0x10#8)
  | .ldaImm _ => (0xA9#8, 0x74#8)
  | .ldaZp _ => (0xA5#8, 0x35#8)
  | .ldaZpx _ => (0xB5#8, 0x3D#8)
  | .ldaAbs _ => (0xAD#8, 0x75#8)
  | .ldaAbsx _ => (0xBD#8, 0x7D#8)
  | .ldaAbsy _ => (0xB9#8, 0x7C#8)
  | .ldaIndx _ => (0xA1#8, 0x34#8)
  | .ldaIndy _ => (0xB1#8, 0x3C#8)
  | .ldxImm _ => (0xA2#8, 0xB0#8)
  | .ldxZp _ => (0xA6#8, 0xB1#8)
  | .ldxZpy _ => (0xB6#8, 0xB9#8)
  | .ldxAbs _ => (0xAE#8, 0xF1#8)
  | .ldxAbsy _ => (0xBE#8, 0xF9#8)
  | .ldyImm _ => (0xA0#8, 0x30#8)
  | .ldyZp _ => (0xA4#8, 0x31#8)
  | .ldyZpx _ => (0xB4#8, 0x39#8)
  | .ldyAbs _ => (0xAC#8, 0x71#8)
  | .ldyAbsx _ => (0xBC#8, 0x79#8)
  | .lsrAcc => (0x4A#8, 0xC2#8)
  | .lsrZp _ => (0x46#8, 0x83#8)
  | .lsrZpx _ => (0x56#8, 0x8B#8)
  | .lsrAbs _ => (0x4E#8, 0xC3#8)
  | .lsrAbsx _ => (0x5E#8, 0xCB#8)
  | .nop => (0xEA#8, 0xF2#8)
  | .oraImm _ => (0x09#8, 0x44#8)
  | .oraZp _ => (0x05#8, 0x05#8)
  | .oraZpx _ => (0x15#8, 0x0D#8)
  | .oraAbs _ => (0x0D#8, 0x45#8)
  | .oraAbsx _ => (0x1D#8, 0x4D#8)
  | .oraAbsy _ => (0x19#8, 0x4C#8)
  | .oraIndx _ => (0x01#8, 0x04#8)
  | .oraIndy _ => (0x11#8, 0x0C#8)
  | .pha => (0x48#8, 0x42#8)
  | .php => (0x08#8, 0x40#8)
  | .pla => (0x68#8, 0x52#8)
  | .plp => (0x28#8, 0x50#8)
  | .rolAcc => (0x2A#8, 0xD0#8)
  | .rolZp _ => (0x26#8, 0x91#8)
  | .rolZpx _ => (0x36#8, 0x99#8)
  | .rolAbs _ => (0x2E#8, 0xD1#8)
  | .rolAbsx _ => (0x3E#8, 0xD9#8)
  | .rorAcc => (0x6A#8, 0xD2#8)
  | .rorZp _ => (0x66#8, 0x93#8)
  | .rorZpx _ => (0x76#8, 0x9B#8)
  | .rorAbs _ => (0x6E#8, 0xD3#8)
  | .rorAbsx _ => (0x7E#8, 0xDB#8)
  | .rti => (0x40#8, 0x02#8)
  | .rts => (0x60#8, 0x12#8)
  | .sbcImm _ => (0xE9#8, 0x76#8)
  | .sbcZp _ => (0xE5#8, 0x37#8)
  | .sbcZpx _ => (0xF5#8, 0x3F#8)
  | .sbcAbs _ => (0xED#8, 0x77#8)
  | .sbcAbsx _ => (0xFD#8, 0x7F#8)
  | .sbcAbsy _ => (0xF9#8, 0x7E#8)
  | .sbcIndx _ => (0xE1#8, 0x36#8)
  | .sbcIndy _ => (0xF1#8, 0x3E#8)
  | .sec => (0x38#8, 0x58#8)
  | .sed => (0xF8#8, 0x7A#8)
  | .sei => (0x78#8, 0x5A#8)
  | .set0 _ => (0x8F#8, 0xE5#8)
  | .set1 _ => (0x9F#8, 0xED#8)
  | .set2 _ => (0xAF#8, 0xF5#8)
  | .set3 _ => (0xBF#8, 0xFD#8)
  | .set4 _ => (0xCF#8, 0xE7#8)
  | .set5 _ => (0xDF#8, 0xEF#8)
  | .set6 _ => (0xEF#8, 0xF7#8)
  | .set7 _ => (0xFF#8, 0xFF#8)
  | .staZp _ => (0x85#8, 0x25#8)
  | .staZpx _ => (0x95#8, 0x2D#8)
  | .staAbs _ => (0x8D#8, 0x65#8)
  | .staAbsx _ => (0x9D#8, 0x6D#8)
  | .staAbsy _ => (0x99#8, 0x6C#8)
  | .staIndx _ => (0x81#8, 0x24#8)
  | .staIndy _ => (0x91#8, 0x2C#8)
  | .stxZp _ => (0x86#8, 0xA1#8)
  | .stxZpy _ => (0x96#8, 0xA9#8)
  | .stxAbs _ => (0x8E#8, 0xE1#8)
  | .styZp _ => (0x84#8, 0x21#8)
  | .styZpx _ => (0x94#8, 0x29#8)
  | .styAbs _ => (0x8C#8, 0x61#8)
  | .tax => (0xAA#8, 0xF0#8)
  | .tay => (0xA8#8, 0x70#8)
  | .tst0 _ => (0x07#8, 0x85#8)
  | .tst1 _ => (0x17#8, 0x8D#8)
  | .tst2 _ => (0x27#8, 0x95#8)
  | .tst3 _ => (0x37#8, 0x9D#8)
  | .tst4 _ => (0x47#8, 0x87#8)
  | .tst5 _ => (0x57#8, 0x8F#8)
  | .tst6 _ => (0x67#8, 0x97#8)
  | .tst7 _ => (0x77#8, 0x9F#8)
  | .tsx => (0xBA#8, 0xF8#8)
  | .txa => (0x8A#8, 0xE0#8)
  | .txs => (0x9A#8, 0xE8#8)
  | .tya => (0x98#8, 0x68#8)

/-- The operand bytes of an instruction (R81, R83). -/
def Instr.operandBytes : Instr → List Byte
  | .adcImm dd => [dd]
  | .adcZp aa => [aa]
  | .adcZpx aa => [aa]
  | .adcAbs aaaa => [aaaa.extractLsb' 0 8, aaaa.extractLsb' 8 8]
  | .adcAbsx aaaa => [aaaa.extractLsb' 0 8, aaaa.extractLsb' 8 8]
  | .adcAbsy aaaa => [aaaa.extractLsb' 0 8, aaaa.extractLsb' 8 8]
  | .adcIndx aa => [aa]
  | .adcIndy aa => [aa]
  | .andImm dd => [dd]
  | .andZp aa => [aa]
  | .andZpx aa => [aa]
  | .andAbs aaaa => [aaaa.extractLsb' 0 8, aaaa.extractLsb' 8 8]
  | .andAbsx aaaa => [aaaa.extractLsb' 0 8, aaaa.extractLsb' 8 8]
  | .andAbsy aaaa => [aaaa.extractLsb' 0 8, aaaa.extractLsb' 8 8]
  | .andIndx aa => [aa]
  | .andIndy aa => [aa]
  | .aslAcc => []
  | .aslZp aa => [aa]
  | .aslZpx aa => [aa]
  | .aslAbs aaaa => [aaaa.extractLsb' 0 8, aaaa.extractLsb' 8 8]
  | .aslAbsx aaaa => [aaaa.extractLsb' 0 8, aaaa.extractLsb' 8 8]
  | .bcc rel => [rel]
  | .bcs rel => [rel]
  | .beq rel => [rel]
  | .bmi rel => [rel]
  | .bne rel => [rel]
  | .bpl rel => [rel]
  | .bvc rel => [rel]
  | .bvs rel => [rel]
  | .bitZp aa => [aa]
  | .bitAbs aaaa => [aaaa.extractLsb' 0 8, aaaa.extractLsb' 8 8]
  | .clc => []
  | .cld => []
  | .cli => []
  | .clr0 aa => [aa]
  | .clr1 aa => [aa]
  | .clr2 aa => [aa]
  | .clr3 aa => [aa]
  | .clr4 aa => [aa]
  | .clr5 aa => [aa]
  | .clr6 aa => [aa]
  | .clr7 aa => [aa]
  | .clv => []
  | .cmpImm dd => [dd]
  | .cmpZp aa => [aa]
  | .cmpZpx aa => [aa]
  | .cmpAbs aaaa => [aaaa.extractLsb' 0 8, aaaa.extractLsb' 8 8]
  | .cmpAbsx aaaa => [aaaa.extractLsb' 0 8, aaaa.extractLsb' 8 8]
  | .cmpAbsy aaaa => [aaaa.extractLsb' 0 8, aaaa.extractLsb' 8 8]
  | .cmpIndx aa => [aa]
  | .cmpIndy aa => [aa]
  | .cpxImm dd => [dd]
  | .cpxZp aa => [aa]
  | .cpxAbs aaaa => [aaaa.extractLsb' 0 8, aaaa.extractLsb' 8 8]
  | .cpyImm dd => [dd]
  | .cpyZp aa => [aa]
  | .cpyAbs aaaa => [aaaa.extractLsb' 0 8, aaaa.extractLsb' 8 8]
  | .decZp aa => [aa]
  | .decZpx aa => [aa]
  | .decAbs aaaa => [aaaa.extractLsb' 0 8, aaaa.extractLsb' 8 8]
  | .decAbsx aaaa => [aaaa.extractLsb' 0 8, aaaa.extractLsb' 8 8]
  | .dex => []
  | .dey => []
  | .eorImm dd => [dd]
  | .eorZp aa => [aa]
  | .eorZpx aa => [aa]
  | .eorAbs aaaa => [aaaa.extractLsb' 0 8, aaaa.extractLsb' 8 8]
  | .eorAbsx aaaa => [aaaa.extractLsb' 0 8, aaaa.extractLsb' 8 8]
  | .eorAbsy aaaa => [aaaa.extractLsb' 0 8, aaaa.extractLsb' 8 8]
  | .eorIndx aa => [aa]
  | .eorIndy aa => [aa]
  | .incZp aa => [aa]
  | .incZpx aa => [aa]
  | .incAbs aaaa => [aaaa.extractLsb' 0 8, aaaa.extractLsb' 8 8]
  | .incAbsx aaaa => [aaaa.extractLsb' 0 8, aaaa.extractLsb' 8 8]
  | .inv0 aa => [aa]
  | .inv1 aa => [aa]
  | .inv2 aa => [aa]
  | .inv3 aa => [aa]
  | .inv4 aa => [aa]
  | .inv5 aa => [aa]
  | .inv6 aa => [aa]
  | .inv7 aa => [aa]
  | .inx => []
  | .iny => []
  | .jmpAbs aaaa => [aaaa.extractLsb' 0 8, aaaa.extractLsb' 8 8]
  | .jmpInd aaaa => [aaaa.extractLsb' 0 8, aaaa.extractLsb' 8 8]
  | .jsr aaaa => [aaaa.extractLsb' 0 8, aaaa.extractLsb' 8 8]
  | .ldaImm dd => [dd]
  | .ldaZp aa => [aa]
  | .ldaZpx aa => [aa]
  | .ldaAbs aaaa => [aaaa.extractLsb' 0 8, aaaa.extractLsb' 8 8]
  | .ldaAbsx aaaa => [aaaa.extractLsb' 0 8, aaaa.extractLsb' 8 8]
  | .ldaAbsy aaaa => [aaaa.extractLsb' 0 8, aaaa.extractLsb' 8 8]
  | .ldaIndx aa => [aa]
  | .ldaIndy aa => [aa]
  | .ldxImm dd => [dd]
  | .ldxZp aa => [aa]
  | .ldxZpy aa => [aa]
  | .ldxAbs aaaa => [aaaa.extractLsb' 0 8, aaaa.extractLsb' 8 8]
  | .ldxAbsy aaaa => [aaaa.extractLsb' 0 8, aaaa.extractLsb' 8 8]
  | .ldyImm dd => [dd]
  | .ldyZp aa => [aa]
  | .ldyZpx aa => [aa]
  | .ldyAbs aaaa => [aaaa.extractLsb' 0 8, aaaa.extractLsb' 8 8]
  | .ldyAbsx aaaa => [aaaa.extractLsb' 0 8, aaaa.extractLsb' 8 8]
  | .lsrAcc => []
  | .lsrZp aa => [aa]
  | .lsrZpx aa => [aa]
  | .lsrAbs aaaa => [aaaa.extractLsb' 0 8, aaaa.extractLsb' 8 8]
  | .lsrAbsx aaaa => [aaaa.extractLsb' 0 8, aaaa.extractLsb' 8 8]
  | .nop => []
  | .oraImm dd => [dd]
  | .oraZp aa => [aa]
  | .oraZpx aa => [aa]
  | .oraAbs aaaa => [aaaa.extractLsb' 0 8, aaaa.extractLsb' 8 8]
  | .oraAbsx aaaa => [aaaa.extractLsb' 0 8, aaaa.extractLsb' 8 8]
  | .oraAbsy aaaa => [aaaa.extractLsb' 0 8, aaaa.extractLsb' 8 8]
  | .oraIndx aa => [aa]
  | .oraIndy aa => [aa]
  | .pha => []
  | .php => []
  | .pla => []
  | .plp => []
  | .rolAcc => []
  | .rolZp aa => [aa]
  | .rolZpx aa => [aa]
  | .rolAbs aaaa => [aaaa.extractLsb' 0 8, aaaa.extractLsb' 8 8]
  | .rolAbsx aaaa => [aaaa.extractLsb' 0 8, aaaa.extractLsb' 8 8]
  | .rorAcc => []
  | .rorZp aa => [aa]
  | .rorZpx aa => [aa]
  | .rorAbs aaaa => [aaaa.extractLsb' 0 8, aaaa.extractLsb' 8 8]
  | .rorAbsx aaaa => [aaaa.extractLsb' 0 8, aaaa.extractLsb' 8 8]
  | .rti => []
  | .rts => []
  | .sbcImm dd => [dd]
  | .sbcZp aa => [aa]
  | .sbcZpx aa => [aa]
  | .sbcAbs aaaa => [aaaa.extractLsb' 0 8, aaaa.extractLsb' 8 8]
  | .sbcAbsx aaaa => [aaaa.extractLsb' 0 8, aaaa.extractLsb' 8 8]
  | .sbcAbsy aaaa => [aaaa.extractLsb' 0 8, aaaa.extractLsb' 8 8]
  | .sbcIndx aa => [aa]
  | .sbcIndy aa => [aa]
  | .sec => []
  | .sed => []
  | .sei => []
  | .set0 aa => [aa]
  | .set1 aa => [aa]
  | .set2 aa => [aa]
  | .set3 aa => [aa]
  | .set4 aa => [aa]
  | .set5 aa => [aa]
  | .set6 aa => [aa]
  | .set7 aa => [aa]
  | .staZp aa => [aa]
  | .staZpx aa => [aa]
  | .staAbs aaaa => [aaaa.extractLsb' 0 8, aaaa.extractLsb' 8 8]
  | .staAbsx aaaa => [aaaa.extractLsb' 0 8, aaaa.extractLsb' 8 8]
  | .staAbsy aaaa => [aaaa.extractLsb' 0 8, aaaa.extractLsb' 8 8]
  | .staIndx aa => [aa]
  | .staIndy aa => [aa]
  | .stxZp aa => [aa]
  | .stxZpy aa => [aa]
  | .stxAbs aaaa => [aaaa.extractLsb' 0 8, aaaa.extractLsb' 8 8]
  | .styZp aa => [aa]
  | .styZpx aa => [aa]
  | .styAbs aaaa => [aaaa.extractLsb' 0 8, aaaa.extractLsb' 8 8]
  | .tax => []
  | .tay => []
  | .tst0 aa => [aa]
  | .tst1 aa => [aa]
  | .tst2 aa => [aa]
  | .tst3 aa => [aa]
  | .tst4 aa => [aa]
  | .tst5 aa => [aa]
  | .tst6 aa => [aa]
  | .tst7 aa => [aa]
  | .tsx => []
  | .txa => []
  | .txs => []
  | .tya => []

/-- The bytes of an instruction in a map (R81, R86). -/
def encode (map : OpMap) (i : Instr) : List Byte :=
  (match map with
    | .std => i.opcodes.1
    | .sun => i.opcodes.2) :: i.operandBytes

end Sys2Proof
end

