-- ==== Sys2Proof/Machine/Fetch.lean ====
section
/-! DEFINITION. Fetching an instruction (R58, R82, R88, R89), and placing one where the next step fetches it (log 40). -/

namespace Sys2Proof.Machine

/-- Fetch and decode the instruction at pc (R58, R82). The opcode byte is read first; an unassigned byte and a form the CPU
type does not have are model faults found there (R88, R89, R212; log 19); then the operand bytes are read in order. -/
def fetch (s : State) : Except Fault (Instr × State) := do
  let (b, s1) ← memRead s s.pc
  match decodeOpcode s.chip.opMap b with
  | none => .error (.illegalOpcode b)
  | some form =>
    if form.sample.wellFormed s.chip.cpu then
      match form with
      | .one i => return (i, s1)
      | .two i =>
        let (b1, s2) ← memRead s1 (s.pc + 1#16)
        return (i b1, s2)
      | .three i =>
        let (b1, s2) ← memRead s1 (s.pc + 1#16)
        let (b2, s3) ← memRead s2 (s.pc + 2#16)
        return (i (addrOf b2 b1), s3)
    else .error (.unavailable form.sample.mnemonic form.sample.mode)

/-- The address reads as the byte memory lists there: it is ROM or RAM. -/
def holdsBytes (chip : Chip) (addr : Addr) : Bool :=
  match kindIn chip addr with
  | .rom => true
  | .ram => true
  | .io => false
  | .unmapped => false

/-- The chip with one address made RAM, unless it is ROM or RAM already. -/
def Chip.withByteAt (chip : Chip) (addr : Addr) : Chip :=
  if holdsBytes chip addr then chip else { chip with regions := ⟨addr, 1, .ram⟩ :: chip.regions }

/-- Place bytes from an address on, whatever its kind. -/
def placeBytes (s : State) (addr : Addr) : List Byte → State
  | [] => s
  | b :: rest =>
    placeBytes { s with chip := Chip.withByteAt s.chip addr, mem := Memory.write s.mem addr.toNat b } (addr + 1#16) rest

end Sys2Proof.Machine
end

