-- ==== Sys2Proof/Machine/Step.lean ====
section
/-! DEFINITION. One step of the machine (R82, R205, R206). -/

namespace Sys2Proof.Machine

/-- One step: at the instruction boundary either interrupt entry (R206, R207) or the instruction at pc is fetched and
executed (R82); the environment moves on to its input at the next boundary (log 17). -/
def step (s : State) : Host.Outcome State Fault Refusal :=
  if interruptTaken s then outcome (enterInterrupt (nextInput s))
  else
    match fetch (nextInput s) with
    | .ok (i, s1) => exec i s1
    | .error f => .fault f

/-- The state with an instruction's bytes placed at pc, where the next step fetches (log 40). Addresses that hold no byte
are made RAM, and an interrupt that would be taken first is not accepted at this boundary. -/
def State.withFetchWord (s : State) (nbits w : Nat) : State :=
  let placed := placeBytes s s.pc (tableBytes nbits w)
  if interruptTaken s then { placed with irq := { placed.irq with accept := false } } else placed

end Sys2Proof.Machine
end

