-- ==== Sys2Proof/Machine/Timing.lean ====
section
/-! DEFINITION. The manual's cycle counts (R245, R246). They are documentation: no step reads them (log 37). -/

namespace Sys2Proof.Machine

/-- The mark of a cycle cell (R246). -/
inductive CycleNote where
  /-- No mark: a fixed count. -/
  | fixed
  /-- `*`: one more cycle where a page boundary is crossed. -/
  | page
  /-- `**`: one more cycle for a branch taken to the same page, two more to a different page. -/
  | branch
  /-- `***`: one more cycle for a branch taken. -/
  | branch65b02
deriving DecidableEq, Repr

/-- A cell of the cycle columns (R86, R245). -/
structure CycleCell where
  base : Nat
  note : CycleNote
deriving DecidableEq, Repr

/-- The cell of the 65b02 column (R86, R245). -/
def Instr.cell65b02 : Instr → CycleCell
  | .adcImm _ => ⟨2, .fixed⟩
  | .adcZp _ => ⟨3, .fixed⟩
  | .adcZpx _ => ⟨4, .fixed⟩
  | .adcAbs _ => ⟨4, .fixed⟩
  | .adcAbsx _ => ⟨4, .fixed⟩
  | .adcAbsy _ => ⟨4, .fixed⟩
  | .adcIndx _ => ⟨6, .fixed⟩
  | .adcIndy _ => ⟨6, .fixed⟩
  | .andImm _ => ⟨2, .fixed⟩
  | .andZp _ => ⟨3, .fixed⟩
  | .andZpx _ => ⟨4, .fixed⟩
  | .andAbs _ => ⟨4, .fixed⟩
  | .andAbsx _ => ⟨4, .fixed⟩
  | .andAbsy _ => ⟨4, .fixed⟩
  | .andIndx _ => ⟨6, .fixed⟩
  | .andIndy _ => ⟨6, .fixed⟩
  | .aslAcc => ⟨2, .fixed⟩
  | .aslZp _ => ⟨5, .fixed⟩
  | .aslZpx _ => ⟨6, .fixed⟩
  | .aslAbs _ => ⟨6, .fixed⟩
  | .aslAbsx _ => ⟨6, .fixed⟩
  | .bcc _ => ⟨2, .branch65b02⟩
  | .bcs _ => ⟨2, .branch65b02⟩
  | .beq _ => ⟨2, .branch65b02⟩
  | .bmi _ => ⟨2, .branch65b02⟩
  | .bne _ => ⟨2, .branch65b02⟩
  | .bpl _ => ⟨2, .branch65b02⟩
  | .bvc _ => ⟨2, .branch65b02⟩
  | .bvs _ => ⟨2, .branch65b02⟩
  | .bitZp _ => ⟨3, .fixed⟩
  | .bitAbs _ => ⟨4, .fixed⟩
  | .clc => ⟨2, .fixed⟩
  | .cld => ⟨2, .fixed⟩
  | .cli => ⟨2, .fixed⟩
  | .clr0 _ => ⟨5, .fixed⟩
  | .clr1 _ => ⟨5, .fixed⟩
  | .clr2 _ => ⟨5, .fixed⟩
  | .clr3 _ => ⟨5, .fixed⟩
  | .clr4 _ => ⟨5, .fixed⟩
  | .clr5 _ => ⟨5, .fixed⟩
  | .clr6 _ => ⟨5, .fixed⟩
  | .clr7 _ => ⟨5, .fixed⟩
  | .clv => ⟨2, .fixed⟩
  | .cmpImm _ => ⟨2, .fixed⟩
  | .cmpZp _ => ⟨3, .fixed⟩
  | .cmpZpx _ => ⟨4, .fixed⟩
  | .cmpAbs _ => ⟨4, .fixed⟩
  | .cmpAbsx _ => ⟨4, .fixed⟩
  | .cmpAbsy _ => ⟨4, .fixed⟩
  | .cmpIndx _ => ⟨6, .fixed⟩
  | .cmpIndy _ => ⟨6, .fixed⟩
  | .cpxImm _ => ⟨2, .fixed⟩
  | .cpxZp _ => ⟨3, .fixed⟩
  | .cpxAbs _ => ⟨4, .fixed⟩
  | .cpyImm _ => ⟨2, .fixed⟩
  | .cpyZp _ => ⟨3, .fixed⟩
  | .cpyAbs _ => ⟨4, .fixed⟩
  | .decZp _ => ⟨5, .fixed⟩
  | .decZpx _ => ⟨6, .fixed⟩
  | .decAbs _ => ⟨6, .fixed⟩
  | .decAbsx _ => ⟨6, .fixed⟩
  | .dex => ⟨2, .fixed⟩
  | .dey => ⟨2, .fixed⟩
  | .eorImm _ => ⟨2, .fixed⟩
  | .eorZp _ => ⟨3, .fixed⟩
  | .eorZpx _ => ⟨4, .fixed⟩
  | .eorAbs _ => ⟨4, .fixed⟩
  | .eorAbsx _ => ⟨4, .fixed⟩
  | .eorAbsy _ => ⟨4, .fixed⟩
  | .eorIndx _ => ⟨6, .fixed⟩
  | .eorIndy _ => ⟨6, .fixed⟩
  | .incZp _ => ⟨5, .fixed⟩
  | .incZpx _ => ⟨6, .fixed⟩
  | .incAbs _ => ⟨6, .fixed⟩
  | .incAbsx _ => ⟨6, .fixed⟩
  | .inv0 _ => ⟨5, .fixed⟩
  | .inv1 _ => ⟨5, .fixed⟩
  | .inv2 _ => ⟨5, .fixed⟩
  | .inv3 _ => ⟨5, .fixed⟩
  | .inv4 _ => ⟨5, .fixed⟩
  | .inv5 _ => ⟨5, .fixed⟩
  | .inv6 _ => ⟨5, .fixed⟩
  | .inv7 _ => ⟨5, .fixed⟩
  | .inx => ⟨2, .fixed⟩
  | .iny => ⟨2, .fixed⟩
  | .jmpAbs _ => ⟨3, .fixed⟩
  | .jmpInd _ => ⟨5, .fixed⟩
  | .jsr _ => ⟨6, .fixed⟩
  | .ldaImm _ => ⟨2, .fixed⟩
  | .ldaZp _ => ⟨3, .fixed⟩
  | .ldaZpx _ => ⟨4, .fixed⟩
  | .ldaAbs _ => ⟨4, .fixed⟩
  | .ldaAbsx _ => ⟨4, .fixed⟩
  | .ldaAbsy _ => ⟨4, .fixed⟩
  | .ldaIndx _ => ⟨6, .fixed⟩
  | .ldaIndy _ => ⟨6, .fixed⟩
  | .ldxImm _ => ⟨2, .fixed⟩
  | .ldxZp _ => ⟨3, .fixed⟩
  | .ldxZpy _ => ⟨4, .fixed⟩
  | .ldxAbs _ => ⟨4, .fixed⟩
  | .ldxAbsy _ => ⟨4, .fixed⟩
  | .ldyImm _ => ⟨2, .fixed⟩
  | .ldyZp _ => ⟨3, .fixed⟩
  | .ldyZpx _ => ⟨4, .fixed⟩
  | .ldyAbs _ => ⟨4, .fixed⟩
  | .ldyAbsx _ => ⟨4, .fixed⟩
  | .lsrAcc => ⟨2, .fixed⟩
  | .lsrZp _ => ⟨5, .fixed⟩
  | .lsrZpx _ => ⟨6, .fixed⟩
  | .lsrAbs _ => ⟨6, .fixed⟩
  | .lsrAbsx _ => ⟨6, .fixed⟩
  | .nop => ⟨2, .fixed⟩
  | .oraImm _ => ⟨2, .fixed⟩
  | .oraZp _ => ⟨3, .fixed⟩
  | .oraZpx _ => ⟨4, .fixed⟩
  | .oraAbs _ => ⟨4, .fixed⟩
  | .oraAbsx _ => ⟨4, .fixed⟩
  | .oraAbsy _ => ⟨4, .fixed⟩
  | .oraIndx _ => ⟨6, .fixed⟩
  | .oraIndy _ => ⟨6, .fixed⟩
  | .pha => ⟨3, .fixed⟩
  | .php => ⟨3, .fixed⟩
  | .pla => ⟨4, .fixed⟩
  | .plp => ⟨4, .fixed⟩
  | .rolAcc => ⟨2, .fixed⟩
  | .rolZp _ => ⟨5, .fixed⟩
  | .rolZpx _ => ⟨6, .fixed⟩
  | .rolAbs _ => ⟨6, .fixed⟩
  | .rolAbsx _ => ⟨6, .fixed⟩
  | .rorAcc => ⟨2, .fixed⟩
  | .rorZp _ => ⟨5, .fixed⟩
  | .rorZpx _ => ⟨6, .fixed⟩
  | .rorAbs _ => ⟨6, .fixed⟩
  | .rorAbsx _ => ⟨6, .fixed⟩
  | .rti => ⟨6, .fixed⟩
  | .rts => ⟨6, .fixed⟩
  | .sbcImm _ => ⟨2, .fixed⟩
  | .sbcZp _ => ⟨3, .fixed⟩
  | .sbcZpx _ => ⟨4, .fixed⟩
  | .sbcAbs _ => ⟨4, .fixed⟩
  | .sbcAbsx _ => ⟨4, .fixed⟩
  | .sbcAbsy _ => ⟨4, .fixed⟩
  | .sbcIndx _ => ⟨6, .fixed⟩
  | .sbcIndy _ => ⟨6, .fixed⟩
  | .sec => ⟨2, .fixed⟩
  | .sed => ⟨2, .fixed⟩
  | .sei => ⟨2, .fixed⟩
  | .set0 _ => ⟨5, .fixed⟩
  | .set1 _ => ⟨5, .fixed⟩
  | .set2 _ => ⟨5, .fixed⟩
  | .set3 _ => ⟨5, .fixed⟩
  | .set4 _ => ⟨5, .fixed⟩
  | .set5 _ => ⟨5, .fixed⟩
  | .set6 _ => ⟨5, .fixed⟩
  | .set7 _ => ⟨5, .fixed⟩
  | .staZp _ => ⟨3, .fixed⟩
  | .staZpx _ => ⟨4, .fixed⟩
  | .staAbs _ => ⟨4, .fixed⟩
  | .staAbsx _ => ⟨4, .fixed⟩
  | .staAbsy _ => ⟨4, .fixed⟩
  | .staIndx _ => ⟨6, .fixed⟩
  | .staIndy _ => ⟨6, .fixed⟩
  | .stxZp _ => ⟨3, .fixed⟩
  | .stxZpy _ => ⟨4, .fixed⟩
  | .stxAbs _ => ⟨4, .fixed⟩
  | .styZp _ => ⟨3, .fixed⟩
  | .styZpx _ => ⟨4, .fixed⟩
  | .styAbs _ => ⟨4, .fixed⟩
  | .tax => ⟨2, .fixed⟩
  | .tay => ⟨2, .fixed⟩
  | .tst0 _ => ⟨3, .fixed⟩
  | .tst1 _ => ⟨3, .fixed⟩
  | .tst2 _ => ⟨3, .fixed⟩
  | .tst3 _ => ⟨3, .fixed⟩
  | .tst4 _ => ⟨3, .fixed⟩
  | .tst5 _ => ⟨3, .fixed⟩
  | .tst6 _ => ⟨3, .fixed⟩
  | .tst7 _ => ⟨3, .fixed⟩
  | .tsx => ⟨2, .fixed⟩
  | .txa => ⟨2, .fixed⟩
  | .txs => ⟨2, .fixed⟩
  | .tya => ⟨2, .fixed⟩

/-- The cell of the other four columns, which agree wherever the form exists on more than one of those types (R245); `none`
where none of the four has the form. -/
def Instr.cellOthers : Instr → Option CycleCell
  | .adcImm _ => some ⟨2, .fixed⟩
  | .adcZp _ => some ⟨3, .fixed⟩
  | .adcZpx _ => some ⟨4, .fixed⟩
  | .adcAbs _ => some ⟨4, .fixed⟩
  | .adcAbsx _ => some ⟨4, .page⟩
  | .adcAbsy _ => some ⟨4, .page⟩
  | .adcIndx _ => some ⟨6, .fixed⟩
  | .adcIndy _ => some ⟨5, .page⟩
  | .andImm _ => some ⟨2, .fixed⟩
  | .andZp _ => some ⟨3, .fixed⟩
  | .andZpx _ => some ⟨4, .fixed⟩
  | .andAbs _ => some ⟨4, .fixed⟩
  | .andAbsx _ => some ⟨4, .page⟩
  | .andAbsy _ => some ⟨4, .page⟩
  | .andIndx _ => some ⟨6, .fixed⟩
  | .andIndy _ => some ⟨5, .page⟩
  | .aslAcc => some ⟨2, .fixed⟩
  | .aslZp _ => some ⟨5, .fixed⟩
  | .aslZpx _ => some ⟨6, .fixed⟩
  | .aslAbs _ => some ⟨6, .fixed⟩
  | .aslAbsx _ => some ⟨6, .page⟩
  | .bcc _ => some ⟨2, .branch⟩
  | .bcs _ => some ⟨2, .branch⟩
  | .beq _ => some ⟨2, .branch⟩
  | .bmi _ => some ⟨2, .branch⟩
  | .bne _ => some ⟨2, .branch⟩
  | .bpl _ => some ⟨2, .branch⟩
  | .bvc _ => some ⟨2, .branch⟩
  | .bvs _ => some ⟨2, .branch⟩
  | .bitZp _ => some ⟨3, .fixed⟩
  | .bitAbs _ => some ⟨4, .fixed⟩
  | .clc => some ⟨2, .fixed⟩
  | .cld => some ⟨2, .fixed⟩
  | .cli => some ⟨2, .fixed⟩
  | .clr0 _ => none
  | .clr1 _ => none
  | .clr2 _ => none
  | .clr3 _ => none
  | .clr4 _ => none
  | .clr5 _ => none
  | .clr6 _ => none
  | .clr7 _ => none
  | .clv => some ⟨2, .fixed⟩
  | .cmpImm _ => some ⟨2, .fixed⟩
  | .cmpZp _ => some ⟨3, .fixed⟩
  | .cmpZpx _ => some ⟨4, .fixed⟩
  | .cmpAbs _ => some ⟨4, .fixed⟩
  | .cmpAbsx _ => some ⟨4, .page⟩
  | .cmpAbsy _ => some ⟨4, .page⟩
  | .cmpIndx _ => some ⟨6, .fixed⟩
  | .cmpIndy _ => some ⟨5, .page⟩
  | .cpxImm _ => some ⟨2, .fixed⟩
  | .cpxZp _ => some ⟨3, .fixed⟩
  | .cpxAbs _ => some ⟨4, .fixed⟩
  | .cpyImm _ => some ⟨2, .fixed⟩
  | .cpyZp _ => some ⟨3, .fixed⟩
  | .cpyAbs _ => some ⟨4, .fixed⟩
  | .decZp _ => some ⟨5, .fixed⟩
  | .decZpx _ => some ⟨6, .fixed⟩
  | .decAbs _ => some ⟨6, .fixed⟩
  | .decAbsx _ => some ⟨7, .fixed⟩
  | .dex => some ⟨2, .fixed⟩
  | .dey => some ⟨2, .fixed⟩
  | .eorImm _ => some ⟨2, .fixed⟩
  | .eorZp _ => some ⟨3, .fixed⟩
  | .eorZpx _ => some ⟨4, .fixed⟩
  | .eorAbs _ => some ⟨4, .fixed⟩
  | .eorAbsx _ => some ⟨4, .page⟩
  | .eorAbsy _ => some ⟨4, .page⟩
  | .eorIndx _ => some ⟨6, .fixed⟩
  | .eorIndy _ => some ⟨5, .page⟩
  | .incZp _ => some ⟨5, .fixed⟩
  | .incZpx _ => some ⟨6, .fixed⟩
  | .incAbs _ => some ⟨6, .fixed⟩
  | .incAbsx _ => some ⟨7, .fixed⟩
  | .inv0 _ => none
  | .inv1 _ => none
  | .inv2 _ => none
  | .inv3 _ => none
  | .inv4 _ => none
  | .inv5 _ => none
  | .inv6 _ => none
  | .inv7 _ => none
  | .inx => some ⟨2, .fixed⟩
  | .iny => some ⟨2, .fixed⟩
  | .jmpAbs _ => some ⟨3, .fixed⟩
  | .jmpInd _ => some ⟨6, .fixed⟩
  | .jsr _ => some ⟨6, .fixed⟩
  | .ldaImm _ => some ⟨2, .fixed⟩
  | .ldaZp _ => some ⟨3, .fixed⟩
  | .ldaZpx _ => some ⟨4, .fixed⟩
  | .ldaAbs _ => some ⟨4, .fixed⟩
  | .ldaAbsx _ => some ⟨4, .page⟩
  | .ldaAbsy _ => some ⟨4, .page⟩
  | .ldaIndx _ => some ⟨6, .fixed⟩
  | .ldaIndy _ => some ⟨5, .page⟩
  | .ldxImm _ => some ⟨2, .fixed⟩
  | .ldxZp _ => some ⟨3, .fixed⟩
  | .ldxZpy _ => some ⟨4, .fixed⟩
  | .ldxAbs _ => some ⟨4, .fixed⟩
  | .ldxAbsy _ => some ⟨4, .page⟩
  | .ldyImm _ => some ⟨2, .fixed⟩
  | .ldyZp _ => some ⟨3, .fixed⟩
  | .ldyZpx _ => some ⟨4, .fixed⟩
  | .ldyAbs _ => some ⟨4, .fixed⟩
  | .ldyAbsx _ => some ⟨4, .page⟩
  | .lsrAcc => some ⟨2, .fixed⟩
  | .lsrZp _ => some ⟨5, .fixed⟩
  | .lsrZpx _ => some ⟨6, .fixed⟩
  | .lsrAbs _ => some ⟨6, .fixed⟩
  | .lsrAbsx _ => some ⟨6, .page⟩
  | .nop => some ⟨2, .fixed⟩
  | .oraImm _ => some ⟨2, .fixed⟩
  | .oraZp _ => some ⟨3, .fixed⟩
  | .oraZpx _ => some ⟨4, .fixed⟩
  | .oraAbs _ => some ⟨4, .fixed⟩
  | .oraAbsx _ => some ⟨4, .page⟩
  | .oraAbsy _ => some ⟨4, .page⟩
  | .oraIndx _ => some ⟨6, .fixed⟩
  | .oraIndy _ => some ⟨5, .page⟩
  | .pha => some ⟨3, .fixed⟩
  | .php => some ⟨3, .fixed⟩
  | .pla => some ⟨4, .fixed⟩
  | .plp => some ⟨4, .fixed⟩
  | .rolAcc => some ⟨2, .fixed⟩
  | .rolZp _ => some ⟨5, .fixed⟩
  | .rolZpx _ => some ⟨6, .fixed⟩
  | .rolAbs _ => some ⟨6, .fixed⟩
  | .rolAbsx _ => some ⟨6, .page⟩
  | .rorAcc => some ⟨2, .fixed⟩
  | .rorZp _ => some ⟨5, .fixed⟩
  | .rorZpx _ => some ⟨6, .fixed⟩
  | .rorAbs _ => some ⟨6, .fixed⟩
  | .rorAbsx _ => some ⟨6, .page⟩
  | .rti => some ⟨6, .fixed⟩
  | .rts => some ⟨6, .fixed⟩
  | .sbcImm _ => some ⟨2, .fixed⟩
  | .sbcZp _ => some ⟨3, .fixed⟩
  | .sbcZpx _ => some ⟨4, .fixed⟩
  | .sbcAbs _ => some ⟨4, .fixed⟩
  | .sbcAbsx _ => some ⟨4, .page⟩
  | .sbcAbsy _ => some ⟨4, .page⟩
  | .sbcIndx _ => some ⟨6, .fixed⟩
  | .sbcIndy _ => some ⟨5, .page⟩
  | .sec => some ⟨2, .fixed⟩
  | .sed => some ⟨2, .fixed⟩
  | .sei => some ⟨2, .fixed⟩
  | .set0 _ => none
  | .set1 _ => none
  | .set2 _ => none
  | .set3 _ => none
  | .set4 _ => none
  | .set5 _ => none
  | .set6 _ => none
  | .set7 _ => none
  | .staZp _ => some ⟨3, .fixed⟩
  | .staZpx _ => some ⟨4, .fixed⟩
  | .staAbs _ => some ⟨4, .fixed⟩
  | .staAbsx _ => some ⟨5, .fixed⟩
  | .staAbsy _ => some ⟨5, .fixed⟩
  | .staIndx _ => some ⟨6, .fixed⟩
  | .staIndy _ => some ⟨6, .fixed⟩
  | .stxZp _ => some ⟨3, .fixed⟩
  | .stxZpy _ => some ⟨4, .fixed⟩
  | .stxAbs _ => some ⟨4, .fixed⟩
  | .styZp _ => some ⟨3, .fixed⟩
  | .styZpx _ => some ⟨4, .fixed⟩
  | .styAbs _ => some ⟨4, .fixed⟩
  | .tax => some ⟨2, .fixed⟩
  | .tay => some ⟨2, .fixed⟩
  | .tst0 _ => none
  | .tst1 _ => none
  | .tst2 _ => none
  | .tst3 _ => none
  | .tst4 _ => none
  | .tst5 _ => none
  | .tst6 _ => none
  | .tst7 _ => none
  | .tsx => some ⟨2, .fixed⟩
  | .txa => some ⟨2, .fixed⟩
  | .txs => some ⟨2, .fixed⟩
  | .tya => some ⟨2, .fixed⟩

/-- The cycle cell of an instruction on a CPU type; `none` where the cell is X (R86). -/
def cycleCell (cpu : CpuType) (i : Instr) : Option CycleCell :=
  if i.wellFormed cpu then
    match cpu with
    | .t65b02 => some (Instr.cell65b02 i)
    | .t65n02 => Instr.cellOthers i
    | .t65r02 => Instr.cellOthers i
    | .t65s02 => Instr.cellOthers i
    | .cpu12 => Instr.cellOthers i
  else none

/-- The un-indexed base address and the index of an indexed form (R103, R110, R246). Where the pointer of `(aa), Y` cannot be
read there is no base, and so no page is crossed: DESIGN CHOICE, since R247 gives such an instruction no count (log 48). -/
def indexedBase (i : Instr) (s : State) : Option (Addr × Byte) :=
  match i with
  | .adcImm _ => none
  | .adcZp _ => none
  | .adcZpx _ => none
  | .adcAbs _ => none
  | .adcAbsx aaaa => some (aaaa, s.x)
  | .adcAbsy aaaa => some (aaaa, s.y)
  | .adcIndx _ => none
  | .adcIndy aa => (readPointer s aa).toOption.map (fun base => (base.1, s.y))
  | .andImm _ => none
  | .andZp _ => none
  | .andZpx _ => none
  | .andAbs _ => none
  | .andAbsx aaaa => some (aaaa, s.x)
  | .andAbsy aaaa => some (aaaa, s.y)
  | .andIndx _ => none
  | .andIndy aa => (readPointer s aa).toOption.map (fun base => (base.1, s.y))
  | .aslAcc => none
  | .aslZp _ => none
  | .aslZpx _ => none
  | .aslAbs _ => none
  | .aslAbsx aaaa => some (aaaa, s.x)
  | .bcc _ => none
  | .bcs _ => none
  | .beq _ => none
  | .bmi _ => none
  | .bne _ => none
  | .bpl _ => none
  | .bvc _ => none
  | .bvs _ => none
  | .bitZp _ => none
  | .bitAbs _ => none
  | .clc => none
  | .cld => none
  | .cli => none
  | .clr0 _ => none
  | .clr1 _ => none
  | .clr2 _ => none
  | .clr3 _ => none
  | .clr4 _ => none
  | .clr5 _ => none
  | .clr6 _ => none
  | .clr7 _ => none
  | .clv => none
  | .cmpImm _ => none
  | .cmpZp _ => none
  | .cmpZpx _ => none
  | .cmpAbs _ => none
  | .cmpAbsx aaaa => some (aaaa, s.x)
  | .cmpAbsy aaaa => some (aaaa, s.y)
  | .cmpIndx _ => none
  | .cmpIndy aa => (readPointer s aa).toOption.map (fun base => (base.1, s.y))
  | .cpxImm _ => none
  | .cpxZp _ => none
  | .cpxAbs _ => none
  | .cpyImm _ => none
  | .cpyZp _ => none
  | .cpyAbs _ => none
  | .decZp _ => none
  | .decZpx _ => none
  | .decAbs _ => none
  | .decAbsx aaaa => some (aaaa, s.x)
  | .dex => none
  | .dey => none
  | .eorImm _ => none
  | .eorZp _ => none
  | .eorZpx _ => none
  | .eorAbs _ => none
  | .eorAbsx aaaa => some (aaaa, s.x)
  | .eorAbsy aaaa => some (aaaa, s.y)
  | .eorIndx _ => none
  | .eorIndy aa => (readPointer s aa).toOption.map (fun base => (base.1, s.y))
  | .incZp _ => none
  | .incZpx _ => none
  | .incAbs _ => none
  | .incAbsx aaaa => some (aaaa, s.x)
  | .inv0 _ => none
  | .inv1 _ => none
  | .inv2 _ => none
  | .inv3 _ => none
  | .inv4 _ => none
  | .inv5 _ => none
  | .inv6 _ => none
  | .inv7 _ => none
  | .inx => none
  | .iny => none
  | .jmpAbs _ => none
  | .jmpInd _ => none
  | .jsr _ => none
  | .ldaImm _ => none
  | .ldaZp _ => none
  | .ldaZpx _ => none
  | .ldaAbs _ => none
  | .ldaAbsx aaaa => some (aaaa, s.x)
  | .ldaAbsy aaaa => some (aaaa, s.y)
  | .ldaIndx _ => none
  | .ldaIndy aa => (readPointer s aa).toOption.map (fun base => (base.1, s.y))
  | .ldxImm _ => none
  | .ldxZp _ => none
  | .ldxZpy _ => none
  | .ldxAbs _ => none
  | .ldxAbsy aaaa => some (aaaa, s.y)
  | .ldyImm _ => none
  | .ldyZp _ => none
  | .ldyZpx _ => none
  | .ldyAbs _ => none
  | .ldyAbsx aaaa => some (aaaa, s.x)
  | .lsrAcc => none
  | .lsrZp _ => none
  | .lsrZpx _ => none
  | .lsrAbs _ => none
  | .lsrAbsx aaaa => some (aaaa, s.x)
  | .nop => none
  | .oraImm _ => none
  | .oraZp _ => none
  | .oraZpx _ => none
  | .oraAbs _ => none
  | .oraAbsx aaaa => some (aaaa, s.x)
  | .oraAbsy aaaa => some (aaaa, s.y)
  | .oraIndx _ => none
  | .oraIndy aa => (readPointer s aa).toOption.map (fun base => (base.1, s.y))
  | .pha => none
  | .php => none
  | .pla => none
  | .plp => none
  | .rolAcc => none
  | .rolZp _ => none
  | .rolZpx _ => none
  | .rolAbs _ => none
  | .rolAbsx aaaa => some (aaaa, s.x)
  | .rorAcc => none
  | .rorZp _ => none
  | .rorZpx _ => none
  | .rorAbs _ => none
  | .rorAbsx aaaa => some (aaaa, s.x)
  | .rti => none
  | .rts => none
  | .sbcImm _ => none
  | .sbcZp _ => none
  | .sbcZpx _ => none
  | .sbcAbs _ => none
  | .sbcAbsx aaaa => some (aaaa, s.x)
  | .sbcAbsy aaaa => some (aaaa, s.y)
  | .sbcIndx _ => none
  | .sbcIndy aa => (readPointer s aa).toOption.map (fun base => (base.1, s.y))
  | .sec => none
  | .sed => none
  | .sei => none
  | .set0 _ => none
  | .set1 _ => none
  | .set2 _ => none
  | .set3 _ => none
  | .set4 _ => none
  | .set5 _ => none
  | .set6 _ => none
  | .set7 _ => none
  | .staZp _ => none
  | .staZpx _ => none
  | .staAbs _ => none
  | .staAbsx aaaa => some (aaaa, s.x)
  | .staAbsy aaaa => some (aaaa, s.y)
  | .staIndx _ => none
  | .staIndy aa => (readPointer s aa).toOption.map (fun base => (base.1, s.y))
  | .stxZp _ => none
  | .stxZpy _ => none
  | .stxAbs _ => none
  | .styZp _ => none
  | .styZpx _ => none
  | .styAbs _ => none
  | .tax => none
  | .tay => none
  | .tst0 _ => none
  | .tst1 _ => none
  | .tst2 _ => none
  | .tst3 _ => none
  | .tst4 _ => none
  | .tst5 _ => none
  | .tst6 _ => none
  | .tst7 _ => none
  | .tsx => none
  | .txa => none
  | .txs => none
  | .tya => none

/-- The indexed effective address lies in another page than its base (R103, R110, R246). -/
def pageCrossed (i : Instr) (s : State) : Bool :=
  match indexedBase i s with
  | some (base, index) => decide (hiByte (base + index.setWidth 16) ≠ hiByte base)
  | none => false

/-- The branch of this instruction is taken in this state, and its offset (R123 to R125, R127 to R131). -/
def branchTaken (i : Instr) (s : State) : Option (Bool × Byte) :=
  match i with
  | .adcImm _ => none
  | .adcZp _ => none
  | .adcZpx _ => none
  | .adcAbs _ => none
  | .adcAbsx _ => none
  | .adcAbsy _ => none
  | .adcIndx _ => none
  | .adcIndy _ => none
  | .andImm _ => none
  | .andZp _ => none
  | .andZpx _ => none
  | .andAbs _ => none
  | .andAbsx _ => none
  | .andAbsy _ => none
  | .andIndx _ => none
  | .andIndy _ => none
  | .aslAcc => none
  | .aslZp _ => none
  | .aslZpx _ => none
  | .aslAbs _ => none
  | .aslAbsx _ => none
  | .bcc rel => some (!s.p.c, rel)
  | .bcs rel => some (s.p.c, rel)
  | .beq rel => some (s.p.z, rel)
  | .bmi rel => some (s.p.n, rel)
  | .bne rel => some (!s.p.z, rel)
  | .bpl rel => some (!s.p.n, rel)
  | .bvc rel => some (!s.p.v, rel)
  | .bvs rel => some (s.p.v, rel)
  | .bitZp _ => none
  | .bitAbs _ => none
  | .clc => none
  | .cld => none
  | .cli => none
  | .clr0 _ => none
  | .clr1 _ => none
  | .clr2 _ => none
  | .clr3 _ => none
  | .clr4 _ => none
  | .clr5 _ => none
  | .clr6 _ => none
  | .clr7 _ => none
  | .clv => none
  | .cmpImm _ => none
  | .cmpZp _ => none
  | .cmpZpx _ => none
  | .cmpAbs _ => none
  | .cmpAbsx _ => none
  | .cmpAbsy _ => none
  | .cmpIndx _ => none
  | .cmpIndy _ => none
  | .cpxImm _ => none
  | .cpxZp _ => none
  | .cpxAbs _ => none
  | .cpyImm _ => none
  | .cpyZp _ => none
  | .cpyAbs _ => none
  | .decZp _ => none
  | .decZpx _ => none
  | .decAbs _ => none
  | .decAbsx _ => none
  | .dex => none
  | .dey => none
  | .eorImm _ => none
  | .eorZp _ => none
  | .eorZpx _ => none
  | .eorAbs _ => none
  | .eorAbsx _ => none
  | .eorAbsy _ => none
  | .eorIndx _ => none
  | .eorIndy _ => none
  | .incZp _ => none
  | .incZpx _ => none
  | .incAbs _ => none
  | .incAbsx _ => none
  | .inv0 _ => none
  | .inv1 _ => none
  | .inv2 _ => none
  | .inv3 _ => none
  | .inv4 _ => none
  | .inv5 _ => none
  | .inv6 _ => none
  | .inv7 _ => none
  | .inx => none
  | .iny => none
  | .jmpAbs _ => none
  | .jmpInd _ => none
  | .jsr _ => none
  | .ldaImm _ => none
  | .ldaZp _ => none
  | .ldaZpx _ => none
  | .ldaAbs _ => none
  | .ldaAbsx _ => none
  | .ldaAbsy _ => none
  | .ldaIndx _ => none
  | .ldaIndy _ => none
  | .ldxImm _ => none
  | .ldxZp _ => none
  | .ldxZpy _ => none
  | .ldxAbs _ => none
  | .ldxAbsy _ => none
  | .ldyImm _ => none
  | .ldyZp _ => none
  | .ldyZpx _ => none
  | .ldyAbs _ => none
  | .ldyAbsx _ => none
  | .lsrAcc => none
  | .lsrZp _ => none
  | .lsrZpx _ => none
  | .lsrAbs _ => none
  | .lsrAbsx _ => none
  | .nop => none
  | .oraImm _ => none
  | .oraZp _ => none
  | .oraZpx _ => none
  | .oraAbs _ => none
  | .oraAbsx _ => none
  | .oraAbsy _ => none
  | .oraIndx _ => none
  | .oraIndy _ => none
  | .pha => none
  | .php => none
  | .pla => none
  | .plp => none
  | .rolAcc => none
  | .rolZp _ => none
  | .rolZpx _ => none
  | .rolAbs _ => none
  | .rolAbsx _ => none
  | .rorAcc => none
  | .rorZp _ => none
  | .rorZpx _ => none
  | .rorAbs _ => none
  | .rorAbsx _ => none
  | .rti => none
  | .rts => none
  | .sbcImm _ => none
  | .sbcZp _ => none
  | .sbcZpx _ => none
  | .sbcAbs _ => none
  | .sbcAbsx _ => none
  | .sbcAbsy _ => none
  | .sbcIndx _ => none
  | .sbcIndy _ => none
  | .sec => none
  | .sed => none
  | .sei => none
  | .set0 _ => none
  | .set1 _ => none
  | .set2 _ => none
  | .set3 _ => none
  | .set4 _ => none
  | .set5 _ => none
  | .set6 _ => none
  | .set7 _ => none
  | .staZp _ => none
  | .staZpx _ => none
  | .staAbs _ => none
  | .staAbsx _ => none
  | .staAbsy _ => none
  | .staIndx _ => none
  | .staIndy _ => none
  | .stxZp _ => none
  | .stxZpy _ => none
  | .stxAbs _ => none
  | .styZp _ => none
  | .styZpx _ => none
  | .styAbs _ => none
  | .tax => none
  | .tay => none
  | .tst0 _ => none
  | .tst1 _ => none
  | .tst2 _ => none
  | .tst3 _ => none
  | .tst4 _ => none
  | .tst5 _ => none
  | .tst6 _ => none
  | .tst7 _ => none
  | .tsx => none
  | .txa => none
  | .txs => none
  | .tya => none

/-- The extra cycles of a note (R246). -/
def extraCycles (note : CycleNote) (i : Instr) (s : State) : Nat :=
  match note with
  | .fixed => 0
  | .page => (pageCrossed i s).toNat
  | .branch =>
    match branchTaken i s with
    | some (true, rel) => if hiByte (branchTarget s rel) = hiByte (s.pc + 2#16) then 1 else 2
    | some (false, _) => 0
    | none => 0
  | .branch65b02 =>
    match branchTaken i s with
    | some (taken, _) => taken.toNat
    | none => 0

/-- The clock cycles of an instruction executed in a state, as the manual documents them (R245, R246); `none` where the CPU
type has no such form. They count an instruction that completes. No source has a count for one that ends in a model fault
(R247): what this function gives there, the count of its table cell, is DESIGN CHOICE (log 48). -/
def cycles (i : Instr) (s : State) : Option Nat :=
  (cycleCell s.chip.cpu i).map (fun cell => cell.base + extraCycles cell.note i s)

end Sys2Proof.Machine
end

