-- ==== Sys2Proof/Safety.lean ====
section
/-! DEFINITION. What counts as a run that ends normally and a run that never stops (R201, R226). -/

namespace Sys2Proof

open Sys2Proof.Machine

/-- A run has ended normally (R226; log 42): the instruction about to execute is a `JMP aaaa` to its own address, and no
interrupt can be taken, the signal being down or I set. -/
def Ended (s : State) : Prop :=
  (s.irq.pending = false ∨ s.p.i = true) ∧ ∃ s1, fetch s = .ok (.jmpAbs s.pc, s1)

/-- A run of `k` steps meets no model fault and no refusal (R201). -/
def RunsSafely (k : Nat) (s : State) : Prop := ∃ t, Sys2Proof.core.run k s = .next t

end Sys2Proof
end

