-- ==== Sys2Proof/Certificates/Slice0/Obligations.lean ====
section
/-! DEFINITION. The statements for the provers, and the lists of forms they are about. -/

namespace Sys2Proof.Claims

open Sys2Proof.Machine

/-- The eight memory operands, one for each addressing mode. -/
def places (aa : Byte) (aaaa : Addr) : List Place :=
  [.zp aa, .zpx aa, .zpy aa, .abs aaaa, .absx aaaa, .absy aaaa, .indx aa, .indy aa]

/-- Every form of ADC with its operand (R120). -/
def adcForms (dd aa : Byte) (aaaa : Addr) : List (Instr × Operand) :=
  [(.adcImm dd, .imm dd), (.adcZp aa, .mem (.zp aa)), (.adcZpx aa, .mem (.zpx aa)), (.adcAbs aaaa, .mem (.abs aaaa)),
   (.adcAbsx aaaa, .mem (.absx aaaa)), (.adcAbsy aaaa, .mem (.absy aaaa)), (.adcIndx aa, .mem (.indx aa)),
   (.adcIndy aa, .mem (.indy aa))]

/-- Every form of SBC with its operand (R164). -/
def sbcForms (dd aa : Byte) (aaaa : Addr) : List (Instr × Operand) :=
  [(.sbcImm dd, .imm dd), (.sbcZp aa, .mem (.zp aa)), (.sbcZpx aa, .mem (.zpx aa)), (.sbcAbs aaaa, .mem (.abs aaaa)),
   (.sbcAbsx aaaa, .mem (.absx aaaa)), (.sbcAbsy aaaa, .mem (.absy aaaa)), (.sbcIndx aa, .mem (.indx aa)),
   (.sbcIndy aa, .mem (.indy aa))]

/-- Every form of AND with its operand (R121). -/
def andForms (dd aa : Byte) (aaaa : Addr) : List (Instr × Operand) :=
  [(.andImm dd, .imm dd), (.andZp aa, .mem (.zp aa)), (.andZpx aa, .mem (.zpx aa)), (.andAbs aaaa, .mem (.abs aaaa)),
   (.andAbsx aaaa, .mem (.absx aaaa)), (.andAbsy aaaa, .mem (.absy aaaa)), (.andIndx aa, .mem (.indx aa)),
   (.andIndy aa, .mem (.indy aa))]

/-- Every form of ORA with its operand (R155). -/
def oraForms (dd aa : Byte) (aaaa : Addr) : List (Instr × Operand) :=
  [(.oraImm dd, .imm dd), (.oraZp aa, .mem (.zp aa)), (.oraZpx aa, .mem (.zpx aa)), (.oraAbs aaaa, .mem (.abs aaaa)),
   (.oraAbsx aaaa, .mem (.absx aaaa)), (.oraAbsy aaaa, .mem (.absy aaaa)), (.oraIndx aa, .mem (.indx aa)),
   (.oraIndy aa, .mem (.indy aa))]

/-- Every form of EOR with its operand (R143). -/
def eorForms (dd aa : Byte) (aaaa : Addr) : List (Instr × Operand) :=
  [(.eorImm dd, .imm dd), (.eorZp aa, .mem (.zp aa)), (.eorZpx aa, .mem (.zpx aa)), (.eorAbs aaaa, .mem (.abs aaaa)),
   (.eorAbsx aaaa, .mem (.absx aaaa)), (.eorAbsy aaaa, .mem (.absy aaaa)), (.eorIndx aa, .mem (.indx aa)),
   (.eorIndy aa, .mem (.indy aa))]

/-- Every form of BIT with its operand (R126). -/
def bitForms (aa : Byte) (aaaa : Addr) : List (Instr × Operand) :=
  [(.bitZp aa, .mem (.zp aa)), (.bitAbs aaaa, .mem (.abs aaaa))]

/-- Every form of CMP with its operand (R137). -/
def cmpForms (dd aa : Byte) (aaaa : Addr) : List (Instr × Operand) :=
  [(.cmpImm dd, .imm dd), (.cmpZp aa, .mem (.zp aa)), (.cmpZpx aa, .mem (.zpx aa)), (.cmpAbs aaaa, .mem (.abs aaaa)),
   (.cmpAbsx aaaa, .mem (.absx aaaa)), (.cmpAbsy aaaa, .mem (.absy aaaa)), (.cmpIndx aa, .mem (.indx aa)),
   (.cmpIndy aa, .mem (.indy aa))]

/-- Every form of CPX with its operand (R138). -/
def cpxForms (dd aa : Byte) (aaaa : Addr) : List (Instr × Operand) :=
  [(.cpxImm dd, .imm dd), (.cpxZp aa, .mem (.zp aa)), (.cpxAbs aaaa, .mem (.abs aaaa))]

/-- Every form of CPY with its operand (R139). -/
def cpyForms (dd aa : Byte) (aaaa : Addr) : List (Instr × Operand) :=
  [(.cpyImm dd, .imm dd), (.cpyZp aa, .mem (.zp aa)), (.cpyAbs aaaa, .mem (.abs aaaa))]

/-- Every form of LDA with its operand (R150). -/
def ldaForms (dd aa : Byte) (aaaa : Addr) : List (Instr × Operand) :=
  [(.ldaImm dd, .imm dd), (.ldaZp aa, .mem (.zp aa)), (.ldaZpx aa, .mem (.zpx aa)), (.ldaAbs aaaa, .mem (.abs aaaa)),
   (.ldaAbsx aaaa, .mem (.absx aaaa)), (.ldaAbsy aaaa, .mem (.absy aaaa)), (.ldaIndx aa, .mem (.indx aa)),
   (.ldaIndy aa, .mem (.indy aa))]

/-- Every form of LDX with its operand (R151). -/
def ldxForms (dd aa : Byte) (aaaa : Addr) : List (Instr × Operand) :=
  [(.ldxImm dd, .imm dd), (.ldxZp aa, .mem (.zp aa)), (.ldxZpy aa, .mem (.zpy aa)), (.ldxAbs aaaa, .mem (.abs aaaa)),
   (.ldxAbsy aaaa, .mem (.absy aaaa))]

/-- Every form of LDY with its operand (R152). -/
def ldyForms (dd aa : Byte) (aaaa : Addr) : List (Instr × Operand) :=
  [(.ldyImm dd, .imm dd), (.ldyZp aa, .mem (.zp aa)), (.ldyZpx aa, .mem (.zpx aa)), (.ldyAbs aaaa, .mem (.abs aaaa)),
   (.ldyAbsx aaaa, .mem (.absx aaaa))]

/-- Every form of STA with its place (R169). -/
def staForms (aa : Byte) (aaaa : Addr) : List (Instr × Place) :=
  [(.staZp aa, .zp aa), (.staZpx aa, .zpx aa), (.staAbs aaaa, .abs aaaa), (.staAbsx aaaa, .absx aaaa),
   (.staAbsy aaaa, .absy aaaa), (.staIndx aa, .indx aa), (.staIndy aa, .indy aa)]

/-- Every form of STX with its place (R170). -/
def stxForms (aa : Byte) (aaaa : Addr) : List (Instr × Place) :=
  [(.stxZp aa, .zp aa), (.stxZpy aa, .zpy aa), (.stxAbs aaaa, .abs aaaa)]

/-- Every form of STY with its place (R171). -/
def styForms (aa : Byte) (aaaa : Addr) : List (Instr × Place) :=
  [(.styZp aa, .zp aa), (.styZpx aa, .zpx aa), (.styAbs aaaa, .abs aaaa)]

/-- The memory forms of ASL (R122). -/
def aslForms (aa : Byte) (aaaa : Addr) : List (Instr × Place) :=
  [(.aslZp aa, .zp aa), (.aslZpx aa, .zpx aa), (.aslAbs aaaa, .abs aaaa), (.aslAbsx aaaa, .absx aaaa)]

/-- The memory forms of LSR (R153). -/
def lsrForms (aa : Byte) (aaaa : Addr) : List (Instr × Place) :=
  [(.lsrZp aa, .zp aa), (.lsrZpx aa, .zpx aa), (.lsrAbs aaaa, .abs aaaa), (.lsrAbsx aaaa, .absx aaaa)]

/-- The memory forms of ROL (R160). -/
def rolForms (aa : Byte) (aaaa : Addr) : List (Instr × Place) :=
  [(.rolZp aa, .zp aa), (.rolZpx aa, .zpx aa), (.rolAbs aaaa, .abs aaaa), (.rolAbsx aaaa, .absx aaaa)]

/-- The memory forms of ROR (R161). -/
def rorForms (aa : Byte) (aaaa : Addr) : List (Instr × Place) :=
  [(.rorZp aa, .zp aa), (.rorZpx aa, .zpx aa), (.rorAbs aaaa, .abs aaaa), (.rorAbsx aaaa, .absx aaaa)]

/-- Every form of INC (R144). -/
def incForms (aa : Byte) (aaaa : Addr) : List (Instr × Place) :=
  [(.incZp aa, .zp aa), (.incZpx aa, .zpx aa), (.incAbs aaaa, .abs aaaa), (.incAbsx aaaa, .absx aaaa)]

/-- Every form of DEC (R140). -/
def decForms (aa : Byte) (aaaa : Addr) : List (Instr × Place) :=
  [(.decZp aa, .zp aa), (.decZpx aa, .zpx aa), (.decAbs aaaa, .abs aaaa), (.decAbsx aaaa, .absx aaaa)]

/-- CLR with its bit number (R87, R135). -/
def clrForms (aa : Byte) : List (Instr × Nat) :=
  [(.clr0 aa, 0), (.clr1 aa, 1), (.clr2 aa, 2), (.clr3 aa, 3), (.clr4 aa, 4), (.clr5 aa, 5), (.clr6 aa, 6), (.clr7 aa, 7)]

/-- INV with its bit number (R87, R145). -/
def invForms (aa : Byte) : List (Instr × Nat) :=
  [(.inv0 aa, 0), (.inv1 aa, 1), (.inv2 aa, 2), (.inv3 aa, 3), (.inv4 aa, 4), (.inv5 aa, 5), (.inv6 aa, 6), (.inv7 aa, 7)]

/-- SET with its bit number (R87, R168). -/
def setForms (aa : Byte) : List (Instr × Nat) :=
  [(.set0 aa, 0), (.set1 aa, 1), (.set2 aa, 2), (.set3 aa, 3), (.set4 aa, 4), (.set5 aa, 5), (.set6 aa, 6), (.set7 aa, 7)]

/-- TST with its bit number (R87, R174). -/
def tstForms (aa : Byte) : List (Instr × Nat) :=
  [(.tst0 aa, 0), (.tst1 aa, 1), (.tst2 aa, 2), (.tst3 aa, 3), (.tst4 aa, 4), (.tst5 aa, 5), (.tst6 aa, 6), (.tst7 aa, 7)]

/-- Every branch with its condition (R123 to R125, R127 to R131). -/
def branchForms (rel : Byte) (p : Flags) : List (Instr × Bool) :=
  [(.bcc rel, !p.c), (.bcs rel, p.c), (.beq rel, p.z), (.bmi rel, p.n), (.bne rel, !p.z), (.bpl rel, !p.n), (.bvc rel, !p.v),
   (.bvs rel, p.v)]

/-- The row of a one-byte instruction: its opcode in both maps, the CPU types that have it, and its 2 cycles there (R86). -/
def OneByteRow (i : Instr) (std sun : Byte) (types : List CpuType) : Prop :=
  encode .std i = [std] ∧ encode .sun i = [sun] ∧ (∀ cpu, i.wellFormed cpu = true ↔ cpu ∈ types) ∧
    ∀ s : State, cycles i s = if s.chip.cpu ∈ types then some 2 else none

/-- All five CPU types (R2). -/
def allTypes : List CpuType := [.t65b02, .t65n02, .t65r02, .t65s02, .cpu12]

/-- An address whose reads give the byte it holds: ROM or RAM (R63). -/
def HoldsByte (s : State) (addr : Addr) : Prop := s.kindAt addr = .rom ∨ s.kindAt addr = .ram

/-- What a write of v at an address leaves there (R63): the byte in RAM, nothing changed elsewhere. -/
def Stored (s t : State) (addr : Addr) (v : Byte) : Prop :=
  (s.kindAt addr = .ram → t.byteAt addr = v) ∧ (s.kindAt addr ≠ .ram → t.byteAt addr = s.byteAt addr)

/-- N and Z as the result r gives them (R27), in numbers. -/
def NegativeAndZero (p : Flags) (r : Byte) : Prop := (p.n = true ↔ 128 ≤ r.toNat) ∧ (p.z = true ↔ r.toNat = 0)

/-- Every form that reads an operand and stores nothing, with its operand. -/
def readForms (dd aa : Byte) (aaaa : Addr) : List (Instr × Operand) :=
  adcForms dd aa aaaa ++ sbcForms dd aa aaaa ++ andForms dd aa aaaa ++ oraForms dd aa aaaa ++ eorForms dd aa aaaa ++
    bitForms aa aaaa ++ cmpForms dd aa aaaa ++ cpxForms dd aa aaaa ++ cpyForms dd aa aaaa ++ ldaForms dd aa aaaa ++
    ldxForms dd aa aaaa ++ ldyForms dd aa aaaa

/-- Every form that stores a register, with its place. -/
def storeForms (aa : Byte) (aaaa : Addr) : List (Instr × Place) := staForms aa aaaa ++ stxForms aa aaaa ++ styForms aa aaaa

/-- Every form that reads, changes and stores a byte by an addressing mode, with its place. -/
def modifyForms (aa : Byte) (aaaa : Addr) : List (Instr × Place) :=
  aslForms aa aaaa ++ lsrForms aa aaaa ++ rolForms aa aaaa ++ rorForms aa aaaa ++ incForms aa aaaa ++ decForms aa aaaa

/-- Reading one byte after another from an address on gives these bytes and leaves this state (R58): a byte in ROM or RAM is
the byte held there, a byte in I/O the next drawn byte. -/
def ReadsBytes (s : State) (addr : Addr) : List Byte → State → Prop
  | [], t => t = s
  | b :: rest, t => ∃ u, memRead s addr = .ok (b, u) ∧ ReadsBytes u (addr + 1#16) rest t

/-- The status byte as it is pushed (R36): the flags in their places; bit 3 is D but on CPU12, bits 5 and 4 are open. -/
def PushedStatus (s : State) (b : Byte) : Prop :=
  b.getLsbD 7 = s.p.n ∧ b.getLsbD 6 = s.p.v ∧ (s.chip.cpu ≠ .cpu12 → b.getLsbD 3 = s.p.d) ∧ b.getLsbD 2 = s.p.i ∧
    b.getLsbD 1 = s.p.z ∧ b.getLsbD 0 = s.p.c

/-- The unassigned bytes of the 6502 map (R88). -/
def unassignedStd : List Nat :=
  [0x00, 0x02, 0x03, 0x04, 0x0B, 0x0C, 0x12, 0x13, 0x14, 0x1A, 0x1B, 0x1C, 0x22, 0x23, 0x2B, 0x32, 0x33, 0x34, 0x3A, 0x3B, 0x3C,
   0x42, 0x43, 0x44, 0x4B, 0x52, 0x53, 0x54, 0x5A, 0x5B, 0x5C, 0x62, 0x63, 0x64, 0x6B, 0x72, 0x73, 0x74, 0x7A, 0x7B, 0x7C, 0x80,
   0x82, 0x83, 0x89, 0x8B, 0x92, 0x93, 0x9B, 0x9C, 0x9E, 0xA3, 0xAB, 0xB2, 0xB3, 0xBB, 0xC2, 0xC3, 0xCB, 0xD2, 0xD3, 0xD4, 0xDA,
   0xDB, 0xDC, 0xE2, 0xE3, 0xEB, 0xF2, 0xF3, 0xF4, 0xFA, 0xFB, 0xFC]

/-- The unassigned bytes of the Sunplus map (R88). -/
def unassignedSun : List Nat :=
  [0x00, 0x01, 0x03, 0x09, 0x0B, 0x13, 0x19, 0x1B, 0x20, 0x2B, 0x3B, 0x41, 0x49, 0x4B, 0x59, 0x5B, 0x64, 0x69, 0x6B, 0x7B, 0x80,
   0x82, 0x84, 0x86, 0x88, 0x8A, 0x8C, 0x8E, 0x90, 0x92, 0x94, 0x96, 0x98, 0x9A, 0x9C, 0x9E, 0xA0, 0xA2, 0xA4, 0xA6, 0xA8, 0xAA,
   0xAC, 0xAE, 0xB2, 0xB4, 0xB6, 0xB8, 0xBA, 0xBC, 0xBE, 0xC4, 0xC6, 0xC8, 0xCA, 0xCC, 0xCE, 0xD4, 0xD6, 0xD8, 0xDA, 0xDC, 0xDE,
   0xE4, 0xE6, 0xE9, 0xEA, 0xEC, 0xEE, 0xF4, 0xF6, 0xFA, 0xFC, 0xFE]

end Sys2Proof.Claims

open Sys2Proof Sys2Proof.Machine Sys2Proof.Claims

/-- Decoding the encoding of any instruction gives it back, in both opcode maps.
For both opcode maps, every one of the 182 instructions, every operand value and any bytes after it: decode of encode is the instruction and the bytes after it. The operand byte order is the spec's own decision D4 (log 21). -/
def Obligations.DecodeEncodeRoundTrip : Prop :=
  ∀ (map : OpMap) (i : Instr) (rest : List Byte), decode map (encode map i ++ rest) = .ok (i, rest)

/-- Bytes that decode to an instruction begin with exactly its encoding.
For both opcode maps and all bytes: if they decode to an instruction and a rest, they are its encoding followed by that rest; so each byte sequence has one meaning and no bit of it is dropped (operand order: log 21). -/
def Obligations.DecodedBytesAreEncoding : Prop :=
  ∀ (map : OpMap) (bytes : List Byte) (i : Instr) (rest : List Byte),
    decode map bytes = .ok (i, rest) → bytes = encode map i ++ rest

/-- The Sunplus opcode of every instruction is the fixed bit permutation of its 6502 opcode.
For every instruction the two encodings differ in the opcode byte only, and the Sunplus byte is the permutation sun[0]=std[2], sun[1]=std[6], sun[2]=std[0], sun[3]=std[4], sun[4]=std[5], sun[5]=std[7], sun[6]=std[3], sun[7]=std[1] (an observation the spec marks as derived). -/
def Obligations.SunplusOpcodePermutesStdOpcode : Prop :=
  ∀ i : Instr, ∃ (std sun : Byte) (operands : List Byte),
    encode .std i = std :: operands ∧ encode .sun i = sun :: operands ∧
    sun.getLsbD 0 = std.getLsbD 2 ∧ sun.getLsbD 1 = std.getLsbD 6 ∧ sun.getLsbD 2 = std.getLsbD 0 ∧
    sun.getLsbD 3 = std.getLsbD 4 ∧ sun.getLsbD 4 = std.getLsbD 5 ∧ sun.getLsbD 5 = std.getLsbD 7 ∧
    sun.getLsbD 6 = std.getLsbD 3 ∧ sun.getLsbD 7 = std.getLsbD 1

/-- The decoder rejects exactly the 74 unassigned bytes of each map as illegal opcodes.
For each map and any following bytes, decode answers illegalOpcode exactly where the first byte is in that map's list of 74 unassigned bytes. That such a byte has no meaning is the spec's own decision D16 (log 19). -/
def Obligations.IllegalOpcodesAreTheUnassignedBytes : Prop :=
  ∀ (b : Byte) (rest : List Byte),
    (decode .std (b :: rest) = .error (.illegalOpcode b) ↔ b.toNat ∈ unassignedStd) ∧
    (decode .sun (b :: rest) = .error (.illegalOpcode b) ↔ b.toNat ∈ unassignedSun)

/-- Worked byte examples of the manual and of the vectors of the spec decode to their instructions.
The manual prints AND #$08 as 54 08 and AND $30 as 15 30, both in the Sunplus map. The other bytes are those the spec's own vectors give: STA $60,X is 95 60 in the 6502 map, JMP ($31FE) is 6C FE 31 there (its low operand byte first: the spec's own decision D4, log 21), and the byte 0AH is ASL A in the 6502 map and a BVC in the Sunplus map. -/
def Obligations.ManualExamplesDecode : Prop :=
  decode .sun [0x54#8, 0x08#8] = .ok (.andImm 0x08#8, []) ∧
  decode .sun [0x15#8, 0x30#8] = .ok (.andZp 0x30#8, []) ∧
  decode .std [0x95#8, 0x60#8] = .ok (.staZpx 0x60#8, []) ∧
  decode .std [0x6C#8, 0xFE#8, 0x31#8] = .ok (.jmpInd 0x31FE#16, []) ∧
  decode .std [0x0A#8] = .ok (.aslAcc, []) ∧
  decode .sun [0x0A#8, 0x10#8] = .ok (.bvc 0x10#8, [])

/-- A step with no interrupt taken executes the fetched instruction.
Where no interrupt is taken at the boundary and the instruction at pc is fetched, the step is exec of that instruction at the state after the fetch, in which the environment has moved on to its next input (log 17); where the fetch faults, the step faults alike. -/
def Obligations.StepRunsFetchedInstruction : Prop :=
  ∀ s : State, interruptTaken s = false →
    (∀ (i : Instr) (s1 : State), fetch (nextInput s) = .ok (i, s1) → step s = exec i s1) ∧
    (∀ f : Fault, fetch (nextInput s) = .error f → step s = .fault f)

/-- Where the bytes at pc are an available instruction's encoding, the fetch gives it and the step executes it.
If the bytes of memory from pc on (addresses modulo 65536, in ROM or RAM) are the encoding of an instruction of the CPU type in the map in force, the fetch gives that instruction and changes nothing, and a step with no interrupt taken is exec of it at the state with the environment's next input. Where some of the bytes read are in I/O, and so drawn (log 13), the fetch gives the instruction that the bytes read encode and changes nothing but the count of draws, and the step is exec of it at the state after the fetch. The wrap and operand order are decisions D7 and D4 (log 21, log 23). -/
def Obligations.FetchReadsTheEncodedInstruction : Prop :=
  ∀ (s : State) (i : Instr), i.wellFormed s.chip.cpu = true →
    ((∀ (k : Nat) (b : Byte), (encode s.chip.opMap i)[k]? = some b →
        HoldsByte s (s.pc + BitVec.ofNat 16 k) ∧ s.byteAt (s.pc + BitVec.ofNat 16 k) = b) →
      fetch s = .ok (i, s) ∧ (interruptTaken s = false → step s = exec i (nextInput s))) ∧
    (∀ t : State, ReadsBytes s s.pc (encode s.chip.opMap i) t → fetch s = .ok (i, t) ∧ t = { s with draws := t.draws }) ∧
    (∀ t : State, ReadsBytes (nextInput s) s.pc (encode s.chip.opMap i) t → interruptTaken s = false → step s = exec i t)

/-- A step at an unassigned opcode byte is the model fault IllegalOpcode.
Where no interrupt is taken and the byte at pc, in ROM or RAM, is one of the 74 unassigned bytes of the map in force, the step is the fault illegalOpcode with that byte (decision D16, log 19). -/
def Obligations.UnassignedOpcodeStopsTheStep : Prop :=
  ∀ s : State, interruptTaken s = false → HoldsByte s s.pc →
    (match s.chip.opMap with
      | .std => (s.byteAt s.pc).toNat ∈ unassignedStd
      | .sun => (s.byteAt s.pc).toNat ∈ unassignedSun) →
    step s = .fault (.illegalOpcode (s.byteAt s.pc))

/-- A step at an opcode the CPU type does not have is the model fault Unavailable.
Where no interrupt is taken and the byte at pc, in ROM or RAM, is the opcode of an instruction whose cell for CPUTYPE is X, the step is the fault unavailable with its mnemonic and mode, whatever the operand bytes (decision D16, log 19). -/
def Obligations.UnavailableOpcodeStopsTheStep : Prop :=
  ∀ (s : State) (i : Instr), interruptTaken s = false → HoldsByte s s.pc →
    (encode s.chip.opMap i).head? = some (s.byteAt s.pc) → i.wellFormed s.chip.cpu = false →
    step s = .fault (.unavailable i.mnemonic i.mode)

/-- A step whose opcode or operand byte lies at an unmapped address is a model fault.
Where no interrupt is taken and pc is at an unmapped address, the step is the fault unmappedRead at pc. Where the opcode byte is read, from ROM, RAM or I/O, and is that of an instruction of the CPU type, an unmapped first operand byte of an instruction of 2 or 3 bytes is the fault at pc + 1, and an unmapped second operand byte of one of 3 bytes, with the first mapped, the fault at pc + 2, modulo 65536 (D7, log 23; decision D31, log 46). -/
def Obligations.UnmappedFetchStopsTheStep : Prop :=
  ∀ s : State, interruptTaken s = false →
    (s.kindAt s.pc = .unmapped → step s = .fault (.unmappedRead s.pc)) ∧
    (∀ (i : Instr) (b : Byte) (s1 : State), i.wellFormed s.chip.cpu = true → memRead s s.pc = .ok (b, s1) →
      (encode s.chip.opMap i).head? = some b →
      (2 ≤ i.length → s.kindAt (s.pc + 1#16) = .unmapped → step s = .fault (.unmappedRead (s.pc + 1#16))) ∧
      (i.length = 3 → s.kindAt (s.pc + 1#16) ≠ .unmapped → s.kindAt (s.pc + 2#16) = .unmapped →
        step s = .fault (.unmappedRead (s.pc + 2#16))))

/-- An interrupt is taken only where the signal is pending, I is 0 and the environment chooses the boundary.
At a boundary with I = 1, with the signal down or with the choice to wait, the step is that of the instruction at pc; with I = 0, the signal pending and the choice to take it, the step is interrupt entry (decision D14, log 18). -/
def Obligations.InterruptAcceptance : Prop :=
  ∀ s : State,
    (s.p.i = true ∨ s.irq.pending = false ∨ s.irq.accept = false →
      ∀ (i : Instr) (s1 : State), fetch (nextInput s) = .ok (i, s1) → step s = exec i s1) ∧
    (s.p.i = false ∧ s.irq.pending = true ∧ s.irq.accept = true → step s = outcome (enterInterrupt (nextInput s)))

/-- Interrupt entry pushes pc and the status byte, sets I and loads pc from the vector, and changes nothing else.
Where an interrupt is taken and the three stack addresses and the two of the vector are mapped, the step completes: of pc high, pc low and the status byte with the old I, each is stored at its stack location where that is RAM, and a location in ROM or I/O keeps its byte (log 12, log 13); SP falls by 3, I is 1, each half of pc is the byte the vector holds where that is in ROM or RAM, and a drawn byte nothing is said of where it is in I/O (log 13); every other register, flag and byte is as before. That entry does this is the spec's own decision, from general knowledge (decisions D12, D13; log 15, log 27). -/
def Obligations.InterruptEntryEffect : Prop :=
  ∀ (s : State) (vector : Addr), s.p.i = false → s.irq.pending = true → s.irq.accept = true →
    s.chip.irqVector = some vector → s.kindAt vector ≠ .unmapped → s.kindAt (vector + 1#16) ≠ .unmapped →
    s.kindAt (addrOf s.chip.stackPage s.sp) ≠ .unmapped → s.kindAt (addrOf s.chip.stackPage (s.sp - 1#8)) ≠ .unmapped →
    s.kindAt (addrOf s.chip.stackPage (s.sp - 2#8)) ≠ .unmapped →
    ∃ (t : State) (status : Byte), step s = .next t ∧
      Stored s t (addrOf s.chip.stackPage s.sp) (hiByte s.pc) ∧
      Stored s t (addrOf s.chip.stackPage (s.sp - 1#8)) (loByte s.pc) ∧
      Stored s t (addrOf s.chip.stackPage (s.sp - 2#8)) status ∧ PushedStatus s status ∧
      (∀ b : Addr, b ≠ addrOf s.chip.stackPage s.sp → b ≠ addrOf s.chip.stackPage (s.sp - 1#8) →
        b ≠ addrOf s.chip.stackPage (s.sp - 2#8) → t.byteAt b = s.byteAt b) ∧
      (HoldsByte s vector → t.pc.toNat % 256 = (t.byteAt vector).toNat) ∧
      (HoldsByte s (vector + 1#16) → t.pc.toNat / 256 = (t.byteAt (vector + 1#16)).toNat) ∧
      t = { nextInput s with
        mem := t.mem, sp := s.sp - 3#8, p := { s.p with i := true }, pc := t.pc, draws := t.draws }

/-- An interrupt accepted where the stack or the vector is unmapped, or where IRQ_VECTOR has no value, is a model fault.
Where an interrupt is taken, the step is the fault of the first access of the entry that is unmapped: the push of pc high, of pc low, of the status byte (unmappedWrite at that location), then the low and the high byte of the vector (unmappedRead at that address). With the three stack addresses mapped and no value of IRQ_VECTOR it is noIrqVector. The fault leaves no state (decisions D13, D31; log 27, log 36, log 46). -/
def Obligations.InterruptWithoutVectorFaults : Prop :=
  ∀ (s : State) (first second third : Addr), s.p.i = false → s.irq.pending = true → s.irq.accept = true →
    first = addrOf s.chip.stackPage s.sp → second = addrOf s.chip.stackPage (s.sp - 1#8) →
    third = addrOf s.chip.stackPage (s.sp - 2#8) →
    (s.kindAt first = .unmapped → step s = .fault (.unmappedWrite first)) ∧
    (s.kindAt first ≠ .unmapped → s.kindAt second = .unmapped → step s = .fault (.unmappedWrite second)) ∧
    (s.kindAt first ≠ .unmapped → s.kindAt second ≠ .unmapped → s.kindAt third = .unmapped →
      step s = .fault (.unmappedWrite third)) ∧
    (s.kindAt first ≠ .unmapped → s.kindAt second ≠ .unmapped → s.kindAt third ≠ .unmapped →
      (s.chip.irqVector = none → step s = .fault .noIrqVector) ∧
      (∀ vector : Addr, s.chip.irqVector = some vector →
        (s.kindAt vector = .unmapped → step s = .fault (.unmappedRead vector)) ∧
        (s.kindAt vector ≠ .unmapped → s.kindAt (vector + 1#16) = .unmapped →
          step s = .fault (.unmappedRead (vector + 1#16)))))

/-- An RTI at the end of a handler resumes the interrupted program with its pc, SP and flags.
Where an interrupt is taken with the stack in RAM and leaves the state t, then from every later state u with t's SP and chip and t's three stacked bytes, RTI completes with the interrupted pc and SP, the flags N, V, I, Z, C of the interrupted program and, but on CPU12, its D; everything else is as in u (decisions D11, D13; log 26, log 27). -/
def Obligations.InterruptThenRtiResumes : Prop :=
  ∀ (s t u : State), s.p.i = false → s.irq.pending = true → s.irq.accept = true →
    s.kindAt (addrOf s.chip.stackPage s.sp) = .ram → s.kindAt (addrOf s.chip.stackPage (s.sp - 1#8)) = .ram →
    s.kindAt (addrOf s.chip.stackPage (s.sp - 2#8)) = .ram → step s = .next t →
    u.sp = t.sp → u.chip = t.chip →
    (∀ b ∈ [addrOf s.chip.stackPage s.sp, addrOf s.chip.stackPage (s.sp - 1#8), addrOf s.chip.stackPage (s.sp - 2#8)],
      u.byteAt b = t.byteAt b) →
    ∃ d : Bool, (s.chip.cpu ≠ .cpu12 → d = s.p.d) ∧
      exec .rti u = .next { u with pc := s.pc, sp := s.sp, p := { s.p with d := d } }

/-- A run starts at the word at RESET_VECTOR or at the start pc, with I set and the inputs the environment drives, and is refused with neither.
Where the chip has a reset vector whose two bytes are mapped, the run starts with each half of pc the byte held there in ROM or RAM, low byte at the lower address, and a drawn byte where it is in I/O (log 13); where one is unmapped the start is a model fault (log 46). With a start pc given, it starts there. I is 1, memory, chip and the interrupt inputs at this and the later boundaries are the ones given; with neither, the start is refused (decision D15; log 6, log 10, log 17, log 39). -/
def Obligations.ResetRunStartsAtVectorOrStartPc : Prop :=
  ∀ (chip : Chip) (mem : Memory) (irq : IrqInput) (irqNext : List IrqInput) (addr : Addr),
    (chip.start = some (.vector addr) →
      (kindIn chip addr = .unmapped → resetRun chip mem irq irqNext = .fault (.unmappedRead addr)) ∧
      (kindIn chip addr ≠ .unmapped → kindIn chip (addr + 1#16) = .unmapped →
        resetRun chip mem irq irqNext = .fault (.unmappedRead (addr + 1#16))) ∧
      (kindIn chip addr ≠ .unmapped → kindIn chip (addr + 1#16) ≠ .unmapped →
        ∃ t, resetRun chip mem irq irqNext = .next t ∧ t.p.i = true ∧ t.mem = mem ∧ t.chip = chip ∧ t.irq = irq ∧
          t.irqNext = irqNext ∧ (HoldsByte t addr → t.pc.toNat % 256 = (t.byteAt addr).toNat) ∧
          (HoldsByte t (addr + 1#16) → t.pc.toNat / 256 = (t.byteAt (addr + 1#16)).toNat))) ∧
    (chip.start = some (.pc addr) →
      ∃ t, resetRun chip mem irq irqNext = .next t ∧ t.p.i = true ∧ t.mem = mem ∧ t.chip = chip ∧ t.irq = irq ∧
        t.irqNext = irqNext ∧ t.pc = addr) ∧
    (chip.start = none → resetRun chip mem irq irqNext = .refused .noStart)

/-- Every step keeps the memory in its canonical form.
For every state whose memory is canonical (addresses strictly rising, each one of the 65536), if step answers a next state, its memory is canonical. The form of the list is the model's own (log 45). -/
def Obligations.StepKeepsCanonicalMemory : Prop :=
  ∀ s t : State, Memory.wf s.mem = true → step s = .next t → Memory.wf t.mem = true

/-- The memory right after reset is in its canonical form.
State.reset's memory meets the invariant of StepKeepsCanonicalMemory, and so does the memory of every run that resetRun starts from a canonical memory (log 45). -/
def Obligations.ResetMemoryIsCanonical : Prop :=
  Memory.wf State.reset.mem = true ∧
  ∀ (chip : Chip) (mem : Memory) (irq : IrqInput) (irqNext : List IrqInput) (t : State), Memory.wf mem = true →
    resetRun chip mem irq irqNext = .next t → Memory.wf t.mem = true

/-- No step changes a parameter of the chip.
For every state, if step answers a next state, its CPU type, opcode map, stack page, vectors, wrap parameter and address map are those before (log 1). -/
def Obligations.StepNeverChangesTheChip : Prop :=
  ∀ s t : State, step s = .next t → t.chip = s.chip

/-- No step changes the byte at an address that is not RAM.
For every state and address that is ROM, I/O or unmapped, if step answers a next state, the byte held there reads as before: a write to ROM or I/O changes nothing the spec describes (log 12, log 13). -/
def Obligations.StepNeverChangesBytesOutsideRam : Prop :=
  ∀ (s t : State) (addr : Addr), s.kindAt addr ≠ .ram → step s = .next t → t.byteAt addr = s.byteAt addr

/-- Each flag is changed only by the instructions the table of flag writers lists, and by interrupt entry only I.
For every instruction and state with a next state: an instruction that the complete table does not list for N, V, D, I, Z or C leaves that flag unchanged; and interrupt entry sets I and leaves every other flag, D included. That last clause is the spec's own decision D13, from general knowledge, which the model follows (PRESUMED, log 27). -/
def Obligations.FlagsChangeOnlyByTheirWriters : Prop :=
  (∀ (i : Instr) (s t : State), exec i s = .next t →
    (i.mnemonic ∉ ["ADC", "AND", "ASL", "BIT", "CMP", "CPX", "CPY", "DEC", "DEX", "DEY", "EOR", "INC", "INX", "INY", "LDA", "LDX",
      "LDY", "LSR", "ORA", "PLA", "PLP", "ROL", "ROR", "RTI", "SBC", "TAX", "TAY", "TSX", "TXA", "TYA"] → t.p.n = s.p.n) ∧
    (i.mnemonic ∉ ["ADC", "BIT", "CLV", "PLP", "RTI", "SBC"] → t.p.v = s.p.v) ∧
    (i.mnemonic ∉ ["CLD", "SED", "PLP", "RTI"] → t.p.d = s.p.d) ∧
    (i.mnemonic ∉ ["CLI", "SEI", "PLP", "RTI"] → t.p.i = s.p.i) ∧
    (i.mnemonic ∉ ["ADC", "AND", "ASL", "BIT", "CMP", "CPX", "CPY", "DEC", "DEX", "DEY", "EOR", "INC", "INX", "INY", "LDA", "LDX",
      "LDY", "LSR", "ORA", "PLA", "PLP", "ROL", "ROR", "RTI", "SBC", "TAX", "TAY", "TSX", "TXA", "TYA", "TST"] →
        t.p.z = s.p.z) ∧
    (i.mnemonic ∉ ["ADC", "ASL", "CLC", "CMP", "CPX", "CPY", "LSR", "PLP", "ROL", "ROR", "RTI", "SBC", "SEC"] →
        t.p.c = s.p.c)) ∧
  (∀ s t : State, enterInterrupt s = .ok t → t.p = { s.p with i := true })

/-- A, X, Y and SP are changed only by the instructions listed as their writers.
For every instruction and state with a next state: A changes only by ADC, AND, EOR, ORA, SBC, LDA, PLA, TXA, TYA and the accumulator forms of ASL, LSR, ROL, ROR; X only by LDX, TAX, TSX, INX, DEX; Y only by LDY, TAY, INY, DEY; SP only by TXS, PHA, PHP, PLA, PLP, JSR, RTS, RTI. -/
def Obligations.RegistersChangeOnlyByTheirWriters : Prop :=
  ∀ (i : Instr) (s t : State), exec i s = .next t →
    (i.mnemonic ∉ ["ADC", "AND", "EOR", "ORA", "SBC", "LDA", "PLA", "TXA", "TYA"] → i.mode ≠ .acc → t.a = s.a) ∧
    (i.mnemonic ∉ ["LDX", "TAX", "TSX", "INX", "DEX"] → t.x = s.x) ∧
    (i.mnemonic ∉ ["LDY", "TAY", "INY", "DEY"] → t.y = s.y) ∧
    (i.mnemonic ∉ ["TXS", "PHA", "PHP", "PLA", "PLP", "JSR", "RTS", "RTI"] → t.sp = s.sp)

/-- Only the storing instructions change memory, and no instruction the interrupt input.
For every instruction and state with a next state: memory is unchanged unless the instruction is STA, STX, STY, a memory form of ASL, LSR, ROL, ROR, INC or DEC, CLR, SET, INV, PHA, PHP or JSR; and no instruction changes the interrupt input of this or of a later boundary, which is the environment's (that the input stands in State as irq and irqNext is the model's choice, log 17). -/
def Obligations.MemoryChangesOnlyByStoringInstructions : Prop :=
  ∀ (i : Instr) (s t : State), exec i s = .next t →
    (i.mnemonic ∉ ["STA", "STX", "STY", "ASL", "LSR", "ROL", "ROR", "INC", "DEC", "CLR", "SET", "INV", "PHA", "PHP", "JSR"] ∨
      i.mode = .acc → t.mem = s.mem) ∧
    t.irq = s.irq ∧ t.irqNext = s.irqNext

/-- An instruction that transfers no control leaves pc at the next instruction, modulo 65536.
For every instruction but the eight branches, JMP, JSR, RTS and RTI, if exec answers a next state, its pc is (pc + length) mod 65536, the length being 1, 2 or 3 by the addressing mode (wrap: decision D7, log 23). -/
def Obligations.PcAdvancesByLength : Prop :=
  ∀ (i : Instr) (s t : State),
    i.mnemonic ∉ ["BCC", "BCS", "BEQ", "BMI", "BNE", "BPL", "BVC", "BVS", "JMP", "JSR", "RTS", "RTI"] → exec i s = .next t →
    t.pc.toNat = (s.pc.toNat + (encode s.chip.opMap i).length) % 65536

/-- Every one of the 182 instructions answers a next state in a machine with no unmapped address.
For every instruction and every state in which no address is unmapped and JMP_IND_WRAP has a value, exec answers a next state: no instruction stops by itself. That no unwritten read stops one is the model's choice (log 9, log 11: the spec lists the unwritten read among its model faults and allows a draw for a byte of RAM), that no write to ROM does is its choice between two texts of the spec (log 12), and I/O is log 13. -/
def Obligations.EveryInstructionCompletesWhereMemoryIsMapped : Prop :=
  ∀ (i : Instr) (s : State), (∀ addr : Addr, s.kindAt addr ≠ .unmapped) → s.chip.jmpIndWrap ≠ none →
    ∃ t : State, exec i s = .next t

/-- With every address mapped and every parameter given, a step stops only at an illegal or unavailable opcode.
For every state in which no address is unmapped and JMP_IND_WRAP and IRQ_VECTOR have values, a step answers a next state, or the fault illegalOpcode, or the fault unavailable; nothing else stops it. The list of model faults of the spec also has the unwritten read: that none occurs is the model's choice (log 9, log 11), and that a write to ROM is none is log 12. -/
def Obligations.MappedMachineStopsOnlyAtBadOpcodes : Prop :=
  ∀ s : State, (∀ addr : Addr, s.kindAt addr ≠ .unmapped) → s.chip.jmpIndWrap ≠ none → s.chip.irqVector ≠ none →
    (∃ t, step s = .next t) ∨ (∃ b, step s = .fault (.illegalOpcode b)) ∨ (∃ m mode, step s = .fault (.unavailable m mode))

/-- The effective addresses of the zero-page and absolute modes.
Zero page gives aa, zero page indexed (aa + index) mod 256, absolute aaaa, absolute indexed (aaaa + index) mod 65536, the index unsigned, with no access to memory and no change of state (wraps: decisions D5, D7; log 22, log 23). -/
def Obligations.DirectEffectiveAddresses : Prop :=
  ∀ (s : State) (aa : Byte) (aaaa : Addr),
    (∃ ea, effAddr s (.zp aa) = .ok (ea, s) ∧ ea.toNat = aa.toNat) ∧
    (∃ ea, effAddr s (.zpx aa) = .ok (ea, s) ∧ ea.toNat = (aa.toNat + s.x.toNat) % 256) ∧
    (∃ ea, effAddr s (.zpy aa) = .ok (ea, s) ∧ ea.toNat = (aa.toNat + s.y.toNat) % 256) ∧
    (∃ ea, effAddr s (.abs aaaa) = .ok (ea, s) ∧ ea.toNat = aaaa.toNat) ∧
    (∃ ea, effAddr s (.absx aaaa) = .ok (ea, s) ∧ ea.toNat = (aaaa.toNat + s.x.toNat) % 65536) ∧
    (∃ ea, effAddr s (.absy aaaa) = .ok (ea, s) ∧ ea.toNat = (aaaa.toNat + s.y.toNat) % 65536)

/-- The effective addresses of the two indirect modes are little-endian pointers from page zero.
With q the page-zero address of the pointer ((aa + X) mod 256 for (aa, X), aa for (aa), Y) and q' the next address in page zero, both mapped: (aa, X) gives the word lo, hi and (aa), Y that word plus Y modulo 65536, lo being the byte held at q and hi the byte held at q' where they are in ROM or RAM, and a drawn byte nothing is said of where they are in I/O (log 13); nothing changes but the count of draws, and that only for I/O. With q unmapped, or q' alone, both modes fault there (decision D31, log 46). The wraps are decisions D6, D7 (log 22, log 23). -/
def Obligations.IndirectEffectiveAddresses : Prop :=
  ∀ (s : State) (aa : Byte) (q q' : Addr), q'.toNat = (q.toNat + 1) % 256 →
    (q.toNat = (aa.toNat + s.x.toNat) % 256 →
      (s.kindAt q = .unmapped → effAddr s (.indx aa) = .error (.unmappedRead q)) ∧
      (s.kindAt q ≠ .unmapped → s.kindAt q' = .unmapped → effAddr s (.indx aa) = .error (.unmappedRead q')) ∧
      (s.kindAt q ≠ .unmapped → s.kindAt q' ≠ .unmapped → ∃ (ea : Addr) (t : State) (lo hi : Byte),
        effAddr s (.indx aa) = .ok (ea, t) ∧ ea.toNat = 256 * hi.toNat + lo.toNat ∧ (HoldsByte s q → lo = s.byteAt q) ∧
        (HoldsByte s q' → hi = s.byteAt q') ∧ t = { s with draws := t.draws } ∧ (HoldsByte s q → HoldsByte s q' → t = s))) ∧
    (q.toNat = aa.toNat →
      (s.kindAt q = .unmapped → effAddr s (.indy aa) = .error (.unmappedRead q)) ∧
      (s.kindAt q ≠ .unmapped → s.kindAt q' = .unmapped → effAddr s (.indy aa) = .error (.unmappedRead q')) ∧
      (s.kindAt q ≠ .unmapped → s.kindAt q' ≠ .unmapped → ∃ (ea : Addr) (t : State) (lo hi : Byte),
        effAddr s (.indy aa) = .ok (ea, t) ∧ ea.toNat = (256 * hi.toNat + lo.toNat + s.y.toNat) % 65536 ∧
        (HoldsByte s q → lo = s.byteAt q) ∧ (HoldsByte s q' → hi = s.byteAt q') ∧ t = { s with draws := t.draws } ∧
        (HoldsByte s q → HoldsByte s q' → t = s)))

/-- The operand byte by the kind of its address: held, free, or a fault.
An immediate operand is its byte. A memory operand is the byte held where the effective address is ROM or RAM, some byte where it is I/O (a drawn value: nothing is said of it), with nothing changed but the count of draws, and a model fault where it is unmapped (decision D31; log 13). That an unmapped address ends the run is log 46. -/
def Obligations.OperandByteByAddressKind : Prop :=
  ∀ (s s1 : State) (dd : Byte) (place : Place) (ea : Addr),
    readOperand s (.imm dd) = .ok (dd, s) ∧
    (effAddr s place = .ok (ea, s1) →
      (HoldsByte s ea → readOperand s (.mem place) = .ok (s.byteAt ea, s1)) ∧
      (s.kindAt ea = .io → ∃ m t, readOperand s (.mem place) = .ok (m, t) ∧ t = { s1 with draws := t.draws }) ∧
      (s.kindAt ea = .unmapped → readOperand s (.mem place) = .error (.unmappedRead ea)))

/-- An instruction whose pointer, operand or pulled byte lies at an unmapped address is a model fault.
Each form that reads an operand stops with the fault of that read; each storing or read-modify-write form whose effective address cannot be computed stops with the fault of the pointer read; JMP (aaaa) stops with the fault of its pointer read. PLA, PLP, RTS and RTI stop at an unmapped first location of their pull, RTS and RTI at the second and RTI at the third, those before it being mapped; the fault is unmappedRead there. CLR, SET, INV and TST at an unmapped address are BitClearSetInvert and BitTestInstruction; which address the second pointer byte of JMP (aaaa) has is JumpTarget. A model fault ends the run and leaves no state (decision D31, log 46). -/
def Obligations.UnreadableOperandFaults : Prop :=
  ∀ (s : State) (dd aa : Byte) (aaaa : Addr) (i : Instr) (f : Fault),
    (∀ o : Operand, (i, o) ∈ readForms dd aa aaaa → readOperand s o = .error f → exec i s = .fault f) ∧
    (∀ place : Place, (i, place) ∈ storeForms aa aaaa ++ modifyForms aa aaaa → effAddr s place = .error f →
      exec i s = .fault f) ∧
    (∀ high : Addr, jmpPointerHigh s.chip aaaa = some high → read16 s aaaa high = .error f →
      exec (.jmpInd aaaa) s = .fault f) ∧
    (∀ first second third : Addr, first = addrOf s.chip.stackPage (s.sp + 1#8) →
      second = addrOf s.chip.stackPage (s.sp + 2#8) → third = addrOf s.chip.stackPage (s.sp + 3#8) →
      (s.kindAt first = .unmapped → exec .pla s = .fault (.unmappedRead first) ∧ exec .plp s = .fault (.unmappedRead first) ∧
        exec .rts s = .fault (.unmappedRead first) ∧ exec .rti s = .fault (.unmappedRead first)) ∧
      (s.kindAt first ≠ .unmapped → s.kindAt second = .unmapped →
        exec .rts s = .fault (.unmappedRead second) ∧ exec .rti s = .fault (.unmappedRead second)) ∧
      (s.kindAt first ≠ .unmapped → s.kindAt second ≠ .unmapped → s.kindAt third = .unmapped →
        exec .rti s = .fault (.unmappedRead third)))

/-- Binary ADC in every form: sum, carry out, signed overflow, N and Z.
With D = 0 or on CPU12, each form of ADC whose operand is readable completes: A is (A + M + C) mod 256, C is 1 exactly where the sum exceeds 255, V exactly where the signed sum lies outside -128..127, N and Z from the result; D, I, every other register, memory and the rest are unchanged and pc moves past the instruction (V: decision D28, log 28; CPU12: D18, log 33). -/
def Obligations.AdcBinaryResult : Prop :=
  ∀ (s s1 : State) (dd aa m : Byte) (aaaa : Addr) (i : Instr) (o : Operand), (i, o) ∈ adcForms dd aa aaaa →
    readOperand s o = .ok (m, s1) → s.p.d = false ∨ s.chip.cpu = .cpu12 →
    ∃ t, exec i s = .next t ∧
      t.a.toNat = (s.a.toNat + m.toNat + s.p.c.toNat) % 256 ∧
      (t.p.c = true ↔ 255 < s.a.toNat + m.toNat + s.p.c.toNat) ∧
      (t.p.v = true ↔ s.a.toInt + m.toInt + s.p.c.toNat < -128 ∨ 127 < s.a.toInt + m.toInt + s.p.c.toNat) ∧
      NegativeAndZero t.p t.a ∧ t.p.d = s.p.d ∧ t.p.i = s.p.i ∧
      t = { s1 with a := t.a, p := t.p, pc := s.pc + BitVec.ofNat 16 i.length }

/-- Binary SBC in every form: difference, no-borrow, signed overflow, N and Z.
With D = 0 or on CPU12, each form of SBC whose operand is readable completes: A is (A - M - (1 - C)) mod 256, C is 1 exactly where no borrow occurs, V exactly where the signed difference lies outside -128..127, N and Z from the result; D, I, every other register, memory and the rest are unchanged and pc moves past the instruction (V: decision D28, log 28). That CPU12 is always binary is decision D18 (log 33). -/
def Obligations.SbcBinaryResult : Prop :=
  ∀ (s s1 : State) (dd aa m : Byte) (aaaa : Addr) (i : Instr) (o : Operand), (i, o) ∈ sbcForms dd aa aaaa →
    readOperand s o = .ok (m, s1) → s.p.d = false ∨ s.chip.cpu = .cpu12 →
    ∃ t, exec i s = .next t ∧
      t.a.toNat = (256 + s.a.toNat - m.toNat - (1 - s.p.c.toNat)) % 256 ∧
      (t.p.c = true ↔ m.toNat + (1 - s.p.c.toNat) ≤ s.a.toNat) ∧
      (t.p.v = true ↔ s.a.toInt - m.toInt - (1 - (s.p.c.toNat : Int)) < -128 ∨
        127 < s.a.toInt - m.toInt - (1 - (s.p.c.toNat : Int))) ∧
      NegativeAndZero t.p t.a ∧ t.p.d = s.p.d ∧ t.p.i = s.p.i ∧
      t = { s1 with a := t.a, p := t.p, pc := s.pc + BitVec.ofNat 16 i.length }

/-- Decimal ADC of two valid BCD bytes gives the BCD sum and the decimal carry.
With D = 1 and not on CPU12, for A the BCD byte of 10h + l and M that of 10h' + l' (all digits at most 9), each form of ADC with a readable operand completes: A is the BCD byte of the sum with C modulo 100, C is 1 exactly where the sum exceeds 99, N, V and Z take values nothing is said of, D and I and everything else are unchanged (decision D17, log 16). -/
def Obligations.DecimalAdcOnValidDigits : Prop :=
  ∀ (s s1 : State) (dd aa m : Byte) (aaaa : Addr) (i : Instr) (o : Operand) (h l h' l' : Nat),
    (i, o) ∈ adcForms dd aa aaaa → readOperand s o = .ok (m, s1) → s.p.d = true → s.chip.cpu ≠ .cpu12 →
    h ≤ 9 → l ≤ 9 → h' ≤ 9 → l' ≤ 9 → s.a.toNat = 16 * h + l → m.toNat = 16 * h' + l' →
    ∃ t, exec i s = .next t ∧
      t.a.toNat = 16 * ((10 * h + l + (10 * h' + l') + s.p.c.toNat) / 10 % 10) +
        (10 * h + l + (10 * h' + l') + s.p.c.toNat) % 10 ∧
      (t.p.c = true ↔ 99 < 10 * h + l + (10 * h' + l') + s.p.c.toNat) ∧ t.p.d = s.p.d ∧ t.p.i = s.p.i ∧
      t = { s1 with a := t.a, p := t.p, pc := s.pc + BitVec.ofNat 16 i.length, draws := t.draws }

/-- Decimal SBC of two valid BCD bytes gives the BCD difference and no-borrow.
With D = 1 and not on CPU12, for A the BCD byte of 10h + l and M that of 10h' + l' (all digits at most 9), each form of SBC with a readable operand completes: A is the BCD byte of the difference with the borrow modulo 100, C is 1 exactly where the difference is not negative, N, V and Z take values nothing is said of, D and I and everything else are unchanged (decision D17, log 16). -/
def Obligations.DecimalSbcOnValidDigits : Prop :=
  ∀ (s s1 : State) (dd aa m : Byte) (aaaa : Addr) (i : Instr) (o : Operand) (h l h' l' : Nat),
    (i, o) ∈ sbcForms dd aa aaaa → readOperand s o = .ok (m, s1) → s.p.d = true → s.chip.cpu ≠ .cpu12 →
    h ≤ 9 → l ≤ 9 → h' ≤ 9 → l' ≤ 9 → s.a.toNat = 16 * h + l → m.toNat = 16 * h' + l' →
    ∃ t, exec i s = .next t ∧
      t.a.toNat = 16 * ((100 + (10 * h + l) - (10 * h' + l') - (1 - s.p.c.toNat)) / 10 % 10) +
        (100 + (10 * h + l) - (10 * h' + l') - (1 - s.p.c.toNat)) % 10 ∧
      (t.p.c = true ↔ 10 * h' + l' + (1 - s.p.c.toNat) ≤ 10 * h + l) ∧ t.p.d = s.p.d ∧ t.p.i = s.p.i ∧
      t = { s1 with a := t.a, p := t.p, pc := s.pc + BitVec.ofNat 16 i.length, draws := t.draws }

/-- Decimal ADC and SBC with an invalid digit complete and change A, N, V, Z and C only.
With D = 1 and not on CPU12, and a digit above 9 in A or M, each form of ADC and SBC with a readable operand completes: A and the flags N, V, Z, C take values nothing is said of, D, I and everything else but pc and the count of draws are unchanged (decision D17, log 16). -/
def Obligations.DecimalOnInvalidDigitsRuns : Prop :=
  ∀ (s s1 : State) (dd aa m : Byte) (aaaa : Addr) (i : Instr) (o : Operand),
    (i, o) ∈ adcForms dd aa aaaa ++ sbcForms dd aa aaaa → readOperand s o = .ok (m, s1) → s.p.d = true → s.chip.cpu ≠ .cpu12 →
    9 < s.a.toNat / 16 ∨ 9 < s.a.toNat % 16 ∨ 9 < m.toNat / 16 ∨ 9 < m.toNat % 16 →
    ∃ t, exec i s = .next t ∧ t.p.d = s.p.d ∧ t.p.i = s.p.i ∧
      t = { s1 with a := t.a, p := t.p, pc := s.pc + BitVec.ofNat 16 i.length, draws := t.draws }

/-- CMP, CPX and CPY set C, Z and N from the unsigned comparison and the 8-bit difference.
Each form of CMP, CPX and CPY whose operand is readable completes: with r the register, C is 1 exactly where r >= M unsigned, Z exactly where r = M, N is bit 7 of (r - M) mod 256; V, D, I, every register, memory and the rest are unchanged and pc moves past the instruction. -/
def Obligations.CompareSetsCarryZeroNegative : Prop :=
  ∀ (s s1 : State) (dd aa m r : Byte) (aaaa : Addr) (i : Instr) (o : Operand),
    ((i, o) ∈ cmpForms dd aa aaaa ∧ r = s.a) ∨ ((i, o) ∈ cpxForms dd aa aaaa ∧ r = s.x) ∨
      ((i, o) ∈ cpyForms dd aa aaaa ∧ r = s.y) →
    readOperand s o = .ok (m, s1) →
    ∃ t, exec i s = .next t ∧ (t.p.c = true ↔ m.toNat ≤ r.toNat) ∧ (t.p.z = true ↔ r = m) ∧
      (t.p.n = true ↔ 128 ≤ (256 + r.toNat - m.toNat) % 256) ∧ t.p.v = s.p.v ∧ t.p.d = s.p.d ∧ t.p.i = s.p.i ∧
      t = { s1 with p := t.p, pc := s.pc + BitVec.ofNat 16 i.length }

/-- INC and DEC change the byte at the effective address by one and set N and Z.
Each form of INC and DEC with its effective address in RAM completes: the byte there becomes (v + 1) mod 256 or (v - 1) mod 256, N and Z are from it, C, V, D, I, every register and every other byte are unchanged. In ROM or I/O the form completes with no byte changed; at an unmapped address it faults. What ROM, I/O and unmapped addresses do is log 12, log 13 and log 46. -/
def Obligations.IncrementDecrementMemory : Prop :=
  ∀ (s s1 : State) (aa : Byte) (aaaa ea : Addr) (i : Instr) (place : Place) (change : Nat),
    ((i, place) ∈ incForms aa aaaa ∧ change = 1) ∨ ((i, place) ∈ decForms aa aaaa ∧ change = 255) →
    effAddr s place = .ok (ea, s1) →
    (s.kindAt ea = .unmapped → exec i s = .fault (.unmappedRead ea)) ∧
    (s.kindAt ea ≠ .unmapped → ∃ (t : State) (v r : Byte), exec i s = .next t ∧ (HoldsByte s ea → v = s.byteAt ea) ∧
      r.toNat = (v.toNat + change) % 256 ∧ Stored s t ea r ∧ (∀ b, b ≠ ea → t.byteAt b = s.byteAt b) ∧
      NegativeAndZero t.p r ∧ t.p.v = s.p.v ∧ t.p.d = s.p.d ∧ t.p.i = s.p.i ∧ t.p.c = s.p.c ∧
      t = { s1 with mem := t.mem, p := t.p, pc := s.pc + BitVec.ofNat 16 i.length, draws := t.draws })

/-- INX, INY, DEX and DEY change their register by one and set N and Z.
INX and DEX always complete with X one more or one less modulo 256, INY and DEY with Y so; N and Z are from the new value, every other flag and register and all of memory are unchanged and pc moves on by 1. Their opcodes in both maps, the CPU types that have them and their cycles are those of the opcode table. -/
def Obligations.IncrementDecrementIndexRegisters : Prop :=
  OneByteRow .inx 0xE8#8 0x72#8 allTypes ∧
  OneByteRow .iny 0xC8#8 0x62#8 [.t65b02, .t65n02] ∧
  OneByteRow .dex 0xCA#8 0xE2#8 allTypes ∧
  OneByteRow .dey 0x88#8 0x60#8 [.t65b02, .t65n02] ∧
  ∀ s : State,
    (∃ t, exec .inx s = .next t ∧ t.x.toNat = (s.x.toNat + 1) % 256 ∧ NegativeAndZero t.p t.x ∧
      t = { s with x := t.x, p := { s.p with n := t.p.n, z := t.p.z }, pc := s.pc + 1#16 }) ∧
    (∃ t, exec .iny s = .next t ∧ t.y.toNat = (s.y.toNat + 1) % 256 ∧ NegativeAndZero t.p t.y ∧
      t = { s with y := t.y, p := { s.p with n := t.p.n, z := t.p.z }, pc := s.pc + 1#16 }) ∧
    (∃ t, exec .dex s = .next t ∧ t.x.toNat = (s.x.toNat + 255) % 256 ∧ NegativeAndZero t.p t.x ∧
      t = { s with x := t.x, p := { s.p with n := t.p.n, z := t.p.z }, pc := s.pc + 1#16 }) ∧
    (∃ t, exec .dey s = .next t ∧ t.y.toNat = (s.y.toNat + 255) % 256 ∧ NegativeAndZero t.p t.y ∧
      t = { s with y := t.y, p := { s.p with n := t.p.n, z := t.p.z }, pc := s.pc + 1#16 })

/-- AND, ORA and EOR combine A and the operand bit by bit and set N and Z.
Each form of AND, ORA and EOR whose operand is readable completes: every bit of A is the and, or, exclusive or of the bits of A and M, N and Z are from the result; V, D, I, C, every other register, memory and the rest are unchanged and pc moves past the instruction. -/
def Obligations.AndOraEorResult : Prop :=
  ∀ (s s1 : State) (dd aa m : Byte) (aaaa : Addr) (i : Instr) (o : Operand) (op : Bool → Bool → Bool),
    ((i, o) ∈ andForms dd aa aaaa ∧ op = and) ∨ ((i, o) ∈ oraForms dd aa aaaa ∧ op = or) ∨
      ((i, o) ∈ eorForms dd aa aaaa ∧ op = xor) →
    readOperand s o = .ok (m, s1) →
    ∃ t, exec i s = .next t ∧ (∀ k < 8, t.a.getLsbD k = op (s.a.getLsbD k) (m.getLsbD k)) ∧ NegativeAndZero t.p t.a ∧
      t = { s1 with a := t.a, p := { s.p with n := t.p.n, z := t.p.z }, pc := s.pc + BitVec.ofNat 16 i.length }

/-- BIT copies bits 7 and 6 of the memory byte to N and V and sets Z from A AND M.
Both forms of BIT with a readable operand complete: N is bit 7 and V bit 6 of the memory byte, Z is 1 exactly where no bit is set in both A and M; D, I, C, every register and memory are unchanged (Z: decision D25, log 30). -/
def Obligations.BitTestFlags : Prop :=
  ∀ (s s1 : State) (aa m : Byte) (aaaa : Addr) (i : Instr) (o : Operand), (i, o) ∈ bitForms aa aaaa →
    readOperand s o = .ok (m, s1) →
    ∃ t, exec i s = .next t ∧ t.p.n = m.getLsbD 7 ∧ t.p.v = m.getLsbD 6 ∧
      (t.p.z = true ↔ ∀ k < 8, ¬(s.a.getLsbD k = true ∧ m.getLsbD k = true)) ∧
      t = { s1 with p := { s.p with n := t.p.n, v := t.p.v, z := t.p.z }, pc := s.pc + BitVec.ofNat 16 i.length }

/-- ASL and LSR, on A and on memory: the shifted byte, the bit shifted out in C, N and Z.
ASL doubles its operand modulo 256 with bit 7 to C; LSR halves it with bit 0 to C; N and Z are from the result. ASL A and LSR A always complete with A changed alone; a memory form with its effective address in RAM stores the result there and leaves A and every other byte; in ROM or I/O it completes with no byte changed; at an unmapped address it faults. V, D, I and the rest are unchanged. What ROM, I/O and unmapped addresses do is log 12, log 13 and log 46. -/
def Obligations.ShiftResult : Prop :=
  (∀ s : State, ∃ t, exec .aslAcc s = .next t ∧ t.a.toNat = 2 * s.a.toNat % 256 ∧ (t.p.c = true ↔ 128 ≤ s.a.toNat) ∧
    NegativeAndZero t.p t.a ∧
    t = { s with a := t.a, p := { s.p with n := t.p.n, z := t.p.z, c := t.p.c }, pc := s.pc + 1#16 }) ∧
  (∀ s : State, ∃ t, exec .lsrAcc s = .next t ∧ t.a.toNat = s.a.toNat / 2 ∧ (t.p.c = true ↔ s.a.toNat % 2 = 1) ∧
    NegativeAndZero t.p t.a ∧
    t = { s with a := t.a, p := { s.p with n := t.p.n, z := t.p.z, c := t.p.c }, pc := s.pc + 1#16 }) ∧
  (∀ (s s1 : State) (aa : Byte) (aaaa ea : Addr) (i : Instr) (place : Place), effAddr s place = .ok (ea, s1) →
    (i, place) ∈ aslForms aa aaaa ∨ (i, place) ∈ lsrForms aa aaaa →
    (s.kindAt ea = .unmapped → exec i s = .fault (.unmappedRead ea)) ∧
    (s.kindAt ea ≠ .unmapped → ∃ (t : State) (v r : Byte), exec i s = .next t ∧ (HoldsByte s ea → v = s.byteAt ea) ∧
      ((i, place) ∈ aslForms aa aaaa → r.toNat = 2 * v.toNat % 256 ∧ (t.p.c = true ↔ 128 ≤ v.toNat)) ∧
      ((i, place) ∈ lsrForms aa aaaa → r.toNat = v.toNat / 2 ∧ (t.p.c = true ↔ v.toNat % 2 = 1)) ∧
      Stored s t ea r ∧ (∀ b, b ≠ ea → t.byteAt b = s.byteAt b) ∧ NegativeAndZero t.p r ∧
      t = { s1 with
        mem := t.mem, p := { s.p with n := t.p.n, z := t.p.z, c := t.p.c }, pc := s.pc + BitVec.ofNat 16 i.length,
        draws := t.draws }))

/-- ROL and ROR, on A and on memory: a 9-bit rotation through the carry, N and Z.
ROL gives (2v + C) mod 256 with bit 7 of v to C; ROR gives v / 2 + 128 C with bit 0 of v to C; N and Z are from the result. ROL A and ROR A always complete with A changed alone; a memory form stores in RAM at its effective address, changes no byte in ROM or I/O, and faults at an unmapped address. V, D, I and the rest are unchanged (through the carry: decision D26, log 29). What ROM, I/O and unmapped addresses do is log 12, log 13 and log 46. -/
def Obligations.RotateResult : Prop :=
  (∀ s : State, ∃ t, exec .rolAcc s = .next t ∧ t.a.toNat = (2 * s.a.toNat + s.p.c.toNat) % 256 ∧
    (t.p.c = true ↔ 128 ≤ s.a.toNat) ∧ NegativeAndZero t.p t.a ∧
    t = { s with a := t.a, p := { s.p with n := t.p.n, z := t.p.z, c := t.p.c }, pc := s.pc + 1#16 }) ∧
  (∀ s : State, ∃ t, exec .rorAcc s = .next t ∧ t.a.toNat = s.a.toNat / 2 + 128 * s.p.c.toNat ∧
    (t.p.c = true ↔ s.a.toNat % 2 = 1) ∧ NegativeAndZero t.p t.a ∧
    t = { s with a := t.a, p := { s.p with n := t.p.n, z := t.p.z, c := t.p.c }, pc := s.pc + 1#16 }) ∧
  (∀ (s s1 : State) (aa : Byte) (aaaa ea : Addr) (i : Instr) (place : Place), effAddr s place = .ok (ea, s1) →
    (i, place) ∈ rolForms aa aaaa ∨ (i, place) ∈ rorForms aa aaaa →
    (s.kindAt ea = .unmapped → exec i s = .fault (.unmappedRead ea)) ∧
    (s.kindAt ea ≠ .unmapped → ∃ (t : State) (v r : Byte), exec i s = .next t ∧ (HoldsByte s ea → v = s.byteAt ea) ∧
      ((i, place) ∈ rolForms aa aaaa → r.toNat = (2 * v.toNat + s.p.c.toNat) % 256 ∧ (t.p.c = true ↔ 128 ≤ v.toNat)) ∧
      ((i, place) ∈ rorForms aa aaaa → r.toNat = v.toNat / 2 + 128 * s.p.c.toNat ∧ (t.p.c = true ↔ v.toNat % 2 = 1)) ∧
      Stored s t ea r ∧ (∀ b, b ≠ ea → t.byteAt b = s.byteAt b) ∧ NegativeAndZero t.p r ∧
      t = { s1 with
        mem := t.mem, p := { s.p with n := t.p.n, z := t.p.z, c := t.p.c }, pc := s.pc + BitVec.ofNat 16 i.length,
        draws := t.draws }))

/-- ROR A after ROL A, and nine ROL A in a row, give back A and C.
From every state, ROL A then ROR A gives a state with the A and the C of before, and so do nine ROL A in a row (a rotation of nine bits; decision D26, log 29). -/
def Obligations.RorUndoesRol : Prop :=
  (∀ s : State, ∃ t u, exec .rolAcc s = .next t ∧ exec .rorAcc t = .next u ∧ u.a = s.a ∧ u.p.c = s.p.c) ∧
  (∀ (run : Nat → State), (∀ k < 9, exec .rolAcc (run k) = .next (run (k + 1))) →
    (run 9).a = (run 0).a ∧ (run 9).p.c = (run 0).p.c)

/-- LDA, LDX and LDY load the operand byte and set N and Z.
Each form of LDA, LDX, LDY whose operand is readable completes: the register is the operand byte, N and Z are from it; V, D, I, C, every other register, memory and the rest are unchanged and pc moves past the instruction. -/
def Obligations.LoadResult : Prop :=
  ∀ (s s1 : State) (dd aa m : Byte) (aaaa : Addr) (i : Instr) (o : Operand), readOperand s o = .ok (m, s1) →
    ((i, o) ∈ ldaForms dd aa aaaa → ∃ t, exec i s = .next t ∧ NegativeAndZero t.p m ∧
      t = { s1 with a := m, p := { s.p with n := t.p.n, z := t.p.z }, pc := s.pc + BitVec.ofNat 16 i.length }) ∧
    ((i, o) ∈ ldxForms dd aa aaaa → ∃ t, exec i s = .next t ∧ NegativeAndZero t.p m ∧
      t = { s1 with x := m, p := { s.p with n := t.p.n, z := t.p.z }, pc := s.pc + BitVec.ofNat 16 i.length }) ∧
    ((i, o) ∈ ldyForms dd aa aaaa → ∃ t, exec i s = .next t ∧ NegativeAndZero t.p m ∧
      t = { s1 with y := m, p := { s.p with n := t.p.n, z := t.p.z }, pc := s.pc + BitVec.ofNat 16 i.length })

/-- STA, STX and STY store their register at the effective address and change no flag.
Each form of STA, STX, STY whose effective address is computed and mapped completes: in RAM the byte there is the register, in ROM or I/O no byte changes, every other byte, every register and every flag are unchanged and pc moves past the instruction; at an unmapped address the form faults. What ROM, I/O and unmapped addresses do is log 12, log 13 and log 46. -/
def Obligations.StoreResult : Prop :=
  ∀ (s s1 : State) (aa v : Byte) (aaaa ea : Addr) (i : Instr) (place : Place),
    ((i, place) ∈ staForms aa aaaa ∧ v = s.a) ∨ ((i, place) ∈ stxForms aa aaaa ∧ v = s.x) ∨
      ((i, place) ∈ styForms aa aaaa ∧ v = s.y) →
    effAddr s place = .ok (ea, s1) →
    (s.kindAt ea = .unmapped → exec i s = .fault (.unmappedWrite ea)) ∧
    (s.kindAt ea ≠ .unmapped → ∃ t, exec i s = .next t ∧ Stored s t ea v ∧ (∀ b, b ≠ ea → t.byteAt b = s.byteAt b) ∧
      t = { s1 with mem := t.mem, pc := s.pc + BitVec.ofNat 16 i.length })

/-- The six register transfers copy their register; all but TXS set N and Z.
TAX, TAY, TSX, TXA, TYA always complete with the destination equal to the source and N and Z from it; TXS completes with SP equal to X and no flag changed; every other register and flag and all of memory are unchanged and pc moves on by 1. Their opcodes in both maps, the CPU types that have them and their cycles are those of the opcode table. -/
def Obligations.TransferResult : Prop :=
  OneByteRow .tax 0xAA#8 0xF0#8 [.t65b02, .t65n02, .t65r02, .cpu12] ∧
  OneByteRow .tay 0xA8#8 0x70#8 [.t65b02, .t65n02] ∧
  OneByteRow .tsx 0xBA#8 0xF8#8 allTypes ∧
  OneByteRow .txa 0x8A#8 0xE0#8 [.t65b02, .t65n02, .t65r02, .cpu12] ∧
  OneByteRow .txs 0x9A#8 0xE8#8 allTypes ∧
  OneByteRow .tya 0x98#8 0x68#8 [.t65b02, .t65n02] ∧
  ∀ s : State,
    (∃ t, exec .tax s = .next t ∧ NegativeAndZero t.p s.a ∧
      t = { s with x := s.a, p := { s.p with n := t.p.n, z := t.p.z }, pc := s.pc + 1#16 }) ∧
    (∃ t, exec .tay s = .next t ∧ NegativeAndZero t.p s.a ∧
      t = { s with y := s.a, p := { s.p with n := t.p.n, z := t.p.z }, pc := s.pc + 1#16 }) ∧
    (∃ t, exec .tsx s = .next t ∧ NegativeAndZero t.p s.sp ∧
      t = { s with x := s.sp, p := { s.p with n := t.p.n, z := t.p.z }, pc := s.pc + 1#16 }) ∧
    (∃ t, exec .txa s = .next t ∧ NegativeAndZero t.p s.x ∧
      t = { s with a := s.x, p := { s.p with n := t.p.n, z := t.p.z }, pc := s.pc + 1#16 }) ∧
    (∃ t, exec .tya s = .next t ∧ NegativeAndZero t.p s.y ∧
      t = { s with a := s.y, p := { s.p with n := t.p.n, z := t.p.z }, pc := s.pc + 1#16 }) ∧
    exec .txs s = .next { s with sp := s.x, pc := s.pc + 1#16 }

/-- CLC, CLD, CLI, CLV, SEC, SED and SEI write their one flag; NOP changes nothing but pc.
Each of the seven flag instructions always completes with its flag cleared or set and nothing else changed but pc, which moves on by 1; NOP completes with nothing changed but pc. Their opcodes in both maps, the CPU types that have them and their cycles are those of the opcode table. -/
def Obligations.FlagInstructionsAndNop : Prop :=
  OneByteRow .clc 0x18#8 0x48#8 allTypes ∧
  OneByteRow .cld 0xD8#8 0x6A#8 [.t65b02, .t65n02] ∧
  OneByteRow .cli 0x58#8 0x4A#8 allTypes ∧
  OneByteRow .clv 0xB8#8 0x78#8 allTypes ∧
  OneByteRow .nop 0xEA#8 0xF2#8 allTypes ∧
  OneByteRow .sec 0x38#8 0x58#8 allTypes ∧
  OneByteRow .sed 0xF8#8 0x7A#8 [.t65b02, .t65n02] ∧
  OneByteRow .sei 0x78#8 0x5A#8 allTypes ∧
  ∀ s : State,
    exec .clc s = .next { s with p := { s.p with c := false }, pc := s.pc + 1#16 } ∧
    exec .cld s = .next { s with p := { s.p with d := false }, pc := s.pc + 1#16 } ∧
    exec .cli s = .next { s with p := { s.p with i := false }, pc := s.pc + 1#16 } ∧
    exec .clv s = .next { s with p := { s.p with v := false }, pc := s.pc + 1#16 } ∧
    exec .sec s = .next { s with p := { s.p with c := true }, pc := s.pc + 1#16 } ∧
    exec .sed s = .next { s with p := { s.p with d := true }, pc := s.pc + 1#16 } ∧
    exec .sei s = .next { s with p := { s.p with i := true }, pc := s.pc + 1#16 } ∧
    exec .nop s = .next { s with pc := s.pc + 1#16 }

/-- CLR, SET and INV change bit n of a zero-page byte and nothing else.
With ea the address of aa in page zero: where it is RAM, CLR, SET and INV complete with bit n of the byte there cleared, set or toggled and its other seven bits unchanged; in ROM or I/O they complete with no byte changed; at an unmapped address they fault. Every other byte, every register and every flag are unchanged and pc moves on by 2. What ROM, I/O and unmapped addresses do is log 12, log 13 and log 46. -/
def Obligations.BitClearSetInvert : Prop :=
  ∀ (s : State) (aa : Byte) (ea : Addr) (i : Instr) (n : Nat) (newBit : Bool → Bool), ea.toNat = aa.toNat →
    ((i, n) ∈ clrForms aa ∧ newBit = fun _ => false) ∨ ((i, n) ∈ setForms aa ∧ newBit = fun _ => true) ∨
      ((i, n) ∈ invForms aa ∧ newBit = fun b => !b) →
    (s.kindAt ea = .unmapped → exec i s = .fault (.unmappedRead ea)) ∧
    (s.kindAt ea ≠ .unmapped → ∃ t, exec i s = .next t ∧
      (s.kindAt ea = .ram → ∀ k < 8, (t.byteAt ea).getLsbD k =
        if k = n then newBit ((s.byteAt ea).getLsbD k) else (s.byteAt ea).getLsbD k) ∧
      (s.kindAt ea ≠ .ram → t.byteAt ea = s.byteAt ea) ∧ (∀ b, b ≠ ea → t.byteAt b = s.byteAt b) ∧
      t = { s with mem := t.mem, pc := s.pc + 2#16, draws := t.draws })

/-- TST sets Z to the complement of bit n of a zero-page byte.
With ea the address of aa in page zero: where it is ROM or RAM, TST completes with Z = 1 exactly where bit n of the byte there is 0; where it is I/O it completes with some Z; at an unmapped address it faults. N, V, D, I, C, every register and memory are unchanged and pc moves on by 2. What I/O and unmapped addresses do is log 13 and log 46. -/
def Obligations.BitTestInstruction : Prop :=
  ∀ (s : State) (aa : Byte) (ea : Addr) (i : Instr) (n : Nat), ea.toNat = aa.toNat → (i, n) ∈ tstForms aa →
    (HoldsByte s ea →
      exec i s = .next { s with p := { s.p with z := !(s.byteAt ea).getLsbD n }, pc := s.pc + 2#16 }) ∧
    (s.kindAt ea = .io → ∃ t, exec i s = .next t ∧
      t = { s with p := { s.p with z := t.p.z }, pc := s.pc + 2#16, draws := t.draws }) ∧
    (s.kindAt ea = .unmapped → exec i s = .fault (.unmappedRead ea))

/-- Each branch goes to pc + 2 + offset where its condition holds, else to pc + 2, and changes nothing else.
Every branch always completes: with its condition true pc is (pc + 2 + the signed offset) mod 65536, with it false (pc + 2) mod 65536; every register, flag and byte is unchanged (the base pc + 2: decision D9, log 24). -/
def Obligations.BranchTarget : Prop :=
  ∀ (s : State) (rel : Byte) (i : Instr) (condition : Bool), (i, condition) ∈ branchForms rel s.p →
    ∃ t, exec i s = .next t ∧ t = { s with pc := t.pc } ∧
      (t.pc.toNat : Int) = ((s.pc.toNat : Int) + 2 + if condition then rel.toInt else 0) % 65536

/-- JMP aaaa goes to aaaa; JMP (aaaa) to the little-endian word at aaaa, by JMP_IND_WRAP at a page end.
JMP aaaa always completes with pc = aaaa. JMP (aaaa) takes pc low from aaaa and pc high from the next address, but where aaaa ends in FFH: then from (aaaa + 1) mod 65536 with JMP_IND_WRAP = carry, from the start of the same page with nocarry, and with no value the jump is refused. With both pointer bytes mapped it completes: each half of pc is the byte held at its address in ROM or RAM, and a drawn byte nothing is said of in I/O (log 13); only pc changes, and for I/O the count of draws. With the first unmapped, or the second alone, it is the fault unmappedRead there (log 46; decisions D8, D31; log 7, log 35). -/
def Obligations.JumpTarget : Prop :=
  ∀ (s : State) (aaaa high : Addr),
    exec (.jmpAbs aaaa) s = .next { s with pc := aaaa } ∧
    (aaaa.toNat % 256 = 255 → s.chip.jmpIndWrap = none → exec (.jmpInd aaaa) s = .refused (.jmpIndirectWrapUnset aaaa)) ∧
    ((aaaa.toNat % 256 ≠ 255 ∨ s.chip.jmpIndWrap = some .carry) ∧ high.toNat = (aaaa.toNat + 1) % 65536 ∨
      aaaa.toNat % 256 = 255 ∧ s.chip.jmpIndWrap = some .nocarry ∧ high.toNat = aaaa.toNat - 255 →
      (s.kindAt aaaa = .unmapped → exec (.jmpInd aaaa) s = .fault (.unmappedRead aaaa)) ∧
      (s.kindAt aaaa ≠ .unmapped → s.kindAt high = .unmapped → exec (.jmpInd aaaa) s = .fault (.unmappedRead high)) ∧
      (s.kindAt aaaa ≠ .unmapped → s.kindAt high ≠ .unmapped → ∃ t, exec (.jmpInd aaaa) s = .next t ∧
        (HoldsByte s aaaa → t.pc.toNat % 256 = (s.byteAt aaaa).toNat) ∧
        (HoldsByte s high → t.pc.toNat / 256 = (s.byteAt high).toNat) ∧
        t = { s with pc := t.pc, draws := t.draws } ∧ (HoldsByte s aaaa → HoldsByte s high → t.draws = s.draws)))

/-- JSR pushes pc + 2, high byte first, and jumps.
Where the two stack locations are mapped, JSR completes: the high byte of (pc + 2) mod 65536 is stored at {STACK_PAGE, SP}, the low byte at {STACK_PAGE, SP - 1} (in ROM or I/O nothing is stored), SP falls by 2, pc is aaaa, every flag, other register and other byte is unchanged; where the first or the second is unmapped, JSR faults there (decision D10, log 25). What ROM, I/O and unmapped addresses do is log 12, log 13 and log 46. -/
def Obligations.SubroutineCallPushesReturnAddress : Prop :=
  ∀ (s : State) (aaaa high low : Addr), high = addrOf s.chip.stackPage s.sp → low = addrOf s.chip.stackPage (s.sp - 1#8) →
    (s.kindAt high = .unmapped → exec (.jsr aaaa) s = .fault (.unmappedWrite high)) ∧
    (s.kindAt high ≠ .unmapped → s.kindAt low = .unmapped → exec (.jsr aaaa) s = .fault (.unmappedWrite low)) ∧
    (s.kindAt high ≠ .unmapped → s.kindAt low ≠ .unmapped → ∃ (t : State) (h l : Byte), exec (.jsr aaaa) s = .next t ∧
      256 * h.toNat + l.toNat = (s.pc.toNat + 2) % 65536 ∧ Stored s t high h ∧ Stored s t low l ∧
      (∀ b, b ≠ high → b ≠ low → t.byteAt b = s.byteAt b) ∧
      t = { s with mem := t.mem, sp := s.sp - 2#8, pc := aaaa })

/-- RTS and RTI pull pc low byte first; RTS adds 1, RTI restores all six flags first.
Where two bytes are pulled, RTS completes with pc = (the word + 1) mod 65536, the low byte pulled first. Where three are pulled, RTI completes with the six flags from bits 7, 6, 3, 2, 1, 0 of the first and pc the word of the other two. Nothing else changes (decisions D10, D11; log 25, log 26). That RTI writes D from bit 3 also on CPU12 is decision D18 (log 33); that bits 5 and 4 are ignored is decision D12 (log 44). -/
def Obligations.ReturnsPullPc : Prop :=
  ∀ (s s1 s2 s3 : State) (b lo hi : Byte), pull s1 = .ok (lo, s2) → pull s2 = .ok (hi, s3) →
    (∃ target : Addr, target.toNat = (256 * hi.toNat + lo.toNat + 1) % 65536 ∧ exec .rts s1 = .next { s3 with pc := target }) ∧
    (pull s = .ok (b, s1) → ∃ target : Addr, target.toNat = 256 * hi.toNat + lo.toNat ∧
      exec .rti s = .next { s3 with
        pc := target
        p := { n := b.getLsbD 7, v := b.getLsbD 6, d := b.getLsbD 3, i := b.getLsbD 2, z := b.getLsbD 1, c := b.getLsbD 0 } })

/-- RTS at the end of a subroutine resumes after its JSR with the SP of before.
Where the two stack locations are RAM and JSR leaves the state t, then from every later state u with t's SP and chip and the two stacked bytes unchanged, RTS completes with pc = the JSR's pc + 3 and SP as before the JSR; everything else is as in u. What JSR pushes and RTS adds is decision D10 (log 25). -/
def Obligations.CallThenReturnResumes : Prop :=
  ∀ (s t u : State) (aaaa : Addr), s.kindAt (addrOf s.chip.stackPage s.sp) = .ram →
    s.kindAt (addrOf s.chip.stackPage (s.sp - 1#8)) = .ram → exec (.jsr aaaa) s = .next t →
    u.sp = t.sp → u.chip = t.chip →
    (∀ b ∈ [addrOf s.chip.stackPage s.sp, addrOf s.chip.stackPage (s.sp - 1#8)], u.byteAt b = t.byteAt b) →
    exec .rts u = .next { u with pc := s.pc + 3#16, sp := s.sp }

/-- A push stores at {STACK_PAGE, SP} and decrements SP; a pull increments SP and reads there.
Push of v where the location is mapped: the byte is stored in RAM (nothing in ROM or I/O), SP is one less modulo 256, nothing else changes. Pull: SP is one more modulo 256 and the value is the byte held at {STACK_PAGE, SP + 1} in ROM or RAM, or some drawn byte in I/O. At an unmapped location both fault (the page and the wrap: D3, D22). What ROM, I/O and unmapped addresses do is log 12, log 13 and log 46. The page of the stack is log 4, the wrap of SP log 47. -/
def Obligations.PushAndPull : Prop :=
  ∀ (s : State) (v : Byte) (free next : Addr), free = addrOf s.chip.stackPage s.sp →
    next = addrOf s.chip.stackPage (s.sp + 1#8) →
    (s.kindAt free = .unmapped → push s v = .error (.unmappedWrite free)) ∧
    (s.kindAt free ≠ .unmapped → ∃ t, push s v = .ok t ∧ Stored s t free v ∧ (∀ b, b ≠ free → t.byteAt b = s.byteAt b) ∧
      t.sp.toNat = (s.sp.toNat + 255) % 256 ∧ t = { s with mem := t.mem, sp := t.sp }) ∧
    (s.kindAt next = .unmapped → pull s = .error (.unmappedRead next)) ∧
    (HoldsByte s next → pull s = .ok (s.byteAt next, { s with sp := s.sp + 1#8 })) ∧
    (s.kindAt next = .io → ∃ w t, pull s = .ok (w, t) ∧ t = { s with sp := s.sp + 1#8, draws := t.draws })

/-- PHA pushes A and PHP the status byte; neither changes a flag.
Where {STACK_PAGE, SP} is mapped, PHA completes with A stored there (RAM; nothing in ROM or I/O), PHP with a byte whose bits 7, 6, 2, 1, 0 are N, V, I, Z, C and, but on CPU12, bit 3 is D; bits 5 and 4 are open. SP falls by 1, pc moves on by 1, every flag, other register and other byte is unchanged. At an unmapped location both fault (decision D12, log 15). What ROM, I/O and unmapped addresses do is log 12, log 13 and log 46. -/
def Obligations.PushAccumulatorAndStatus : Prop :=
  ∀ (s : State) (free : Addr), free = addrOf s.chip.stackPage s.sp →
    (s.kindAt free = .unmapped → exec .pha s = .fault (.unmappedWrite free) ∧ exec .php s = .fault (.unmappedWrite free)) ∧
    (s.kindAt free ≠ .unmapped →
      (∃ t, exec .pha s = .next t ∧ Stored s t free s.a ∧ (∀ b, b ≠ free → t.byteAt b = s.byteAt b) ∧
        t = { s with mem := t.mem, sp := s.sp - 1#8, pc := s.pc + 1#16 }) ∧
      (∃ (t : State) (status : Byte), exec .php s = .next t ∧ PushedStatus s status ∧ Stored s t free status ∧
        (∀ b, b ≠ free → t.byteAt b = s.byteAt b) ∧
        t = { s with mem := t.mem, sp := s.sp - 1#8, pc := s.pc + 1#16, draws := t.draws }))

/-- PLA loads A and sets N and Z; PLP writes all six flags and ignores bits 5 and 4.
Where a byte b is pulled, PLA completes with A = b and N and Z from it, the other flags unchanged; PLP completes with N, V, D, I, Z, C the bits 7, 6, 3, 2, 1, 0 of b, also on CPU12 (decisions D12, D18; log 33, log 44). pc moves on by 1 and nothing else changes beyond the pull. -/
def Obligations.PullAccumulatorAndStatus : Prop :=
  ∀ (s s1 : State) (b : Byte), pull s = .ok (b, s1) →
    (∃ t, exec .pla s = .next t ∧ NegativeAndZero t.p b ∧
      t = { s1 with a := b, p := { s.p with n := t.p.n, z := t.p.z }, pc := s.pc + 1#16 }) ∧
    exec .plp s = .next { s1 with
      p := { n := b.getLsbD 7, v := b.getLsbD 6, d := b.getLsbD 3, i := b.getLsbD 2, z := b.getLsbD 1, c := b.getLsbD 0 }
      pc := s.pc + 1#16 }

/-- PLA after PHA gives back A, and PLP after PHP the flags, with the SP of before.
Where {STACK_PAGE, SP} is RAM: if PHA leaves t, PLA from every state with t's SP, chip and byte there gives A and SP of before PHA; if PHP leaves t, PLP from every such state gives N, V, I, Z, C and SP of before PHP and, but on CPU12, D. The open bits of the pushed byte are decisions D12 and D18 (log 15). -/
def Obligations.PulledValuesAreThePushedOnes : Prop :=
  ∀ (s t u : State), s.kindAt (addrOf s.chip.stackPage s.sp) = .ram → u.sp = t.sp → u.chip = t.chip →
    u.byteAt (addrOf s.chip.stackPage s.sp) = t.byteAt (addrOf s.chip.stackPage s.sp) →
    (exec .pha s = .next t → ∃ w, exec .pla u = .next w ∧ w.a = s.a ∧ w.sp = s.sp ∧ w.mem = u.mem) ∧
    (exec .php s = .next t → ∃ w, exec .plp u = .next w ∧ w.sp = s.sp ∧ w.mem = u.mem ∧ w.p.n = s.p.n ∧ w.p.v = s.p.v ∧
      w.p.i = s.p.i ∧ w.p.z = s.p.z ∧ w.p.c = s.p.c ∧ (s.chip.cpu ≠ .cpu12 → w.p.d = s.p.d))

/-- At the end of a run a step changes nothing but the environment's input.
Where the instruction about to execute is a JMP to its own address, read from ROM or RAM, and no interrupt can be taken, the step completes and changes nothing but the environment's input (decision D27, log 42). -/
def Obligations.StepAtEndOfRunChangesNothing : Prop :=
  ∀ s : State, Ended s → (∀ k < 3, HoldsByte s (s.pc + BitVec.ofNat 16 k)) → step s = .next (nextInput s)

/-- The cycles of a branch: 2, one more where taken on 65b02, one or two more by page on the other types.
For every branch and state: on 65b02 the count is 2, or 3 where the branch is taken; on the other types 2 where it is not taken, 3 where the target is in the page of pc + 2, 4 where it is not (the page of reference is general knowledge by the spec's own mark; log 37). -/
def Obligations.BranchCycleCounts : Prop :=
  ∀ (s : State) (rel : Byte) (i : Instr) (condition : Bool) (target : Addr), (i, condition) ∈ branchForms rel s.p →
    (target.toNat : Int) = ((s.pc.toNat : Int) + 2 + rel.toInt) % 65536 →
    (s.chip.cpu = .t65b02 → cycles i s = some (if condition then 3 else 2)) ∧
    (s.chip.cpu ≠ .t65b02 → cycles i s =
      some (if condition then (if target.toNat / 256 = (s.pc.toNat + 2) % 65536 / 256 then 3 else 4) else 2))

/-- Every draw uses the next number and advances the count; a step that draws leaves a greater count, and no step a smaller one.
From every state, a drawn bit, a drawn byte and the byte read at an I/O address are the free values of number s.draws and leave the count s.draws + 1; the status byte uses s.draws for bit 5, the next for bit 4 and, on CPU12, the one after for bit 3, and leaves the count past them; nothing else changes. A step leaves a strictly greater count where it takes an interrupt or fetches an opcode or operand byte from I/O; so does an instruction that completes and pushes the status byte, adds or subtracts in decimal mode, pulls any of its bytes from I/O (PLA, PLP, RTS, RTI), reads a pointer byte from I/O ((aa, X), (aa), Y and JMP (aaaa)), or reads its operand from I/O (every reading, read-modify-write and bit form). No step leaves a smaller count, so no drawn value of a run is used twice (the count and the order of the draws are the model's own, log 14, log 15, log 16; I/O is log 13). -/
def Obligations.DrawsNeverRunBackwards : Prop :=
  ∀ s t : State,
    (drawBit s = (Config.freeBit s.draws, { s with draws := s.draws + 1 }) ∧
      drawByte s = (Config.freeByte s.draws, { s with draws := s.draws + 1 }) ∧
      (∀ addr : Addr, s.kindAt addr = .io →
        memRead s addr = .ok (Config.freeByte s.draws, { s with draws := s.draws + 1 })) ∧
      (statusByte s).1.getLsbD 5 = Config.freeBit s.draws ∧ (statusByte s).1.getLsbD 4 = Config.freeBit (s.draws + 1) ∧
      (s.chip.cpu = .cpu12 → (statusByte s).1.getLsbD 3 = Config.freeBit (s.draws + 2)) ∧
      (statusByte s).2 = { s with draws := s.draws + if s.chip.cpu = .cpu12 then 3 else 2 }) ∧
    (step s = .next t → s.draws ≤ t.draws ∧ (interruptTaken s = true → s.draws < t.draws) ∧
      (interruptTaken s = false → ∀ (i : Instr) (s1 : State), fetch (nextInput s) = .ok (i, s1) →
        (∃ k < i.length, s.kindAt (s.pc + BitVec.ofNat 16 k) = .io) → s.draws < t.draws)) ∧
    (∀ (i : Instr) (dd aa : Byte) (aaaa : Addr), exec i s = .next t →
      (i = .php → s.draws < t.draws) ∧
      (s.p.d = true → s.chip.cpu ≠ .cpu12 → (∃ o, (i, o) ∈ adcForms dd aa aaaa ++ sbcForms dd aa aaaa) → s.draws < t.draws) ∧
      (i.mnemonic ∈ ["PLA", "PLP", "RTS", "RTI"] → s.kindAt (addrOf s.chip.stackPage (s.sp + 1#8)) = .io →
        s.draws < t.draws) ∧
      (i.mnemonic ∈ ["RTS", "RTI"] → s.kindAt (addrOf s.chip.stackPage (s.sp + 2#8)) = .io → s.draws < t.draws) ∧
      (i.mnemonic = "RTI" → s.kindAt (addrOf s.chip.stackPage (s.sp + 3#8)) = .io → s.draws < t.draws) ∧
      (∀ high : Addr, i = .jmpInd aaaa → jmpPointerHigh s.chip aaaa = some high →
        s.kindAt aaaa = .io ∨ s.kindAt high = .io → s.draws < t.draws) ∧
      (∀ (place : Place) (q : Byte), place = .indx aa ∧ q = aa + s.x ∨ place = .indy aa ∧ q = aa →
        (i, Operand.mem place) ∈ readForms dd aa aaaa ∨ (i, place) ∈ storeForms aa aaaa ++ modifyForms aa aaaa →
        s.kindAt (zeroPage q) = .io ∨ s.kindAt (zeroPage (q + 1#8)) = .io → s.draws < t.draws) ∧
      (∀ (place : Place) (ea : Addr) (s1 : State), effAddr s place = .ok (ea, s1) → s.kindAt ea = .io →
        (i, Operand.mem place) ∈ readForms dd aa aaaa ∨ (i, place) ∈ modifyForms aa aaaa ∨
          (∃ n, (i, n) ∈ clrForms aa ++ setForms aa ++ invForms aa ++ tstForms aa ∧ place = .zp aa) →
        s.draws < t.draws))
end

