-- ==== Sys2Proof/Laws/Memory.lean ====
section
/-! SUPPORT. The laws of the memory list: reading after writing, and the canonical form. -/

namespace Sys2Proof.Laws

open Sys2Proof.Machine

@[simp] theorem read?_nil (addr : Nat) : Memory.read? [] addr = none := rfl

@[simp] theorem read?_write_same (m : Memory) (addr : Nat) (v : Byte) :
    Memory.read? (Memory.write m addr v) addr = some v := by
  induction m with
  | nil => simp [Memory.write, Memory.read?]
  | cons cell rest ih =>
    obtain ⟨k, w⟩ := cell
    simp only [Memory.write]
    split
    · simp [Memory.read?]
    · split
      · simp [Memory.read?]
      · simp [Memory.read?, *]

theorem read?_write_other (m : Memory) {addr other : Nat} (v : Byte) (h : other ≠ addr) :
    Memory.read? (Memory.write m addr v) other = Memory.read? m other := by
  induction m with
  | nil => simp [Memory.write, Memory.read?, h]
  | cons cell rest ih =>
    obtain ⟨k, w⟩ := cell
    simp only [Memory.write]
    split
    · simp [Memory.read?, h]
    · split
      · subst_vars; simp [Memory.read?, h]
      · simp only [Memory.read?]
        split
        · rfl
        · exact ih

theorem risesFrom_mono {low low' : Nat} (m : Memory) (h : low' ≤ low) (hm : Memory.risesFrom low m = true) :
    Memory.risesFrom low' m = true := by
  cases m with
  | nil => rfl
  | cons cell rest =>
    obtain ⟨k, w⟩ := cell
    simp only [Memory.risesFrom, Bool.and_eq_true, decide_eq_true_eq] at hm ⊢
    exact ⟨by omega, hm.2⟩

theorem risesFrom_write (m : Memory) {low addr : Nat} (v : Byte) (hlow : low ≤ addr)
    (hm : Memory.risesFrom low m = true) : Memory.risesFrom low (Memory.write m addr v) = true := by
  induction m generalizing low with
  | nil => simp [Memory.write, Memory.risesFrom, hlow]
  | cons cell rest ih =>
    obtain ⟨k, w⟩ := cell
    simp only [Memory.risesFrom, Bool.and_eq_true, decide_eq_true_eq] at hm
    simp only [Memory.write]
    split
    · rename_i hlt
      simp only [Memory.risesFrom, Bool.and_eq_true, decide_eq_true_eq]
      exact ⟨hlow, by omega, hm.2⟩
    · split
      · subst_vars; simp [Memory.risesFrom, hm]
      · simp only [Memory.risesFrom, Bool.and_eq_true, decide_eq_true_eq]
        exact ⟨hm.1, ih (by omega) hm.2⟩

theorem all_lt_write (m : Memory) {addr : Nat} (v : Byte) (haddr : addr < 65536)
    (hm : m.all (fun cell => decide (cell.1 < 65536)) = true) :
    (Memory.write m addr v).all (fun cell => decide (cell.1 < 65536)) = true := by
  induction m with
  | nil => simp [Memory.write, haddr]
  | cons cell rest ih =>
    obtain ⟨k, w⟩ := cell
    simp only [List.all_cons, Bool.and_eq_true, decide_eq_true_eq] at hm
    simp only [Memory.write]
    split
    · simp [haddr, hm.1, hm.2]
    · split
      · simp [haddr, hm.2]
      · simp [hm.1, ih hm.2]

/-- Every write keeps the canonical form. -/
theorem write_wf (m : Memory) (addr : Addr) (v : Byte) (hm : Memory.wf m = true) :
    Memory.wf (Memory.write m addr.toNat v) = true := by
  simp only [Memory.wf, Bool.and_eq_true] at hm ⊢
  exact ⟨risesFrom_write m v (Nat.zero_le _) hm.1, all_lt_write m v addr.isLt hm.2⟩

theorem reset_mem_wf : Memory.wf State.reset.mem = true := rfl

/-- Two canonical memories that list the same byte at every address are the same list. -/
theorem eq_of_read?_eq {m m' : Memory} {low : Nat} (hm : Memory.risesFrom low m = true)
    (hm' : Memory.risesFrom low m' = true) (h : ∀ addr, Memory.read? m addr = Memory.read? m' addr) : m = m' := by
  have none_below : ∀ (m : Memory) (low addr : Nat), Memory.risesFrom low m = true → addr < low →
      Memory.read? m addr = none := by
    intro m
    induction m with
    | nil => intros; rfl
    | cons cell rest ih =>
      obtain ⟨k, w⟩ := cell
      intro low addr hm hlt
      simp only [Memory.risesFrom, Bool.and_eq_true, decide_eq_true_eq] at hm
      simp only [Memory.read?]
      rw [if_neg (by omega)]
      exact ih (k + 1) addr hm.2 (by omega)
  induction m generalizing m' low with
  | nil =>
    cases m' with
    | nil => rfl
    | cons cell rest => obtain ⟨k, w⟩ := cell; have := h k; simp [Memory.read?] at this
  | cons cell rest ih =>
    obtain ⟨k, w⟩ := cell
    cases m' with
    | nil => have := h k; simp [Memory.read?] at this
    | cons cell' rest' =>
      obtain ⟨k', w'⟩ := cell'
      simp only [Memory.risesFrom, Bool.and_eq_true, decide_eq_true_eq] at hm hm'
      have hk : k = k' := by
        rcases Nat.lt_trichotomy k k' with hlt | heq | hgt
        · have h1 := h k
          simp only [Memory.read?, if_neg (show k ≠ k' by omega)] at h1
          rw [none_below rest' (k' + 1) k hm'.2 (by omega)] at h1
          simp at h1
        · exact heq
        · have h1 := h k'
          simp only [Memory.read?, if_neg (show k' ≠ k by omega)] at h1
          rw [none_below rest (k + 1) k' hm.2 (by omega)] at h1
          simp at h1
      subst hk
      have hw : w = w' := by have h1 := h k; simpa [Memory.read?] using h1
      subst hw
      congr 1
      refine ih hm.2 hm'.2 fun addr => ?_
      by_cases ha : addr = k
      · subst ha
        rw [none_below rest _ _ hm.2 (by omega), none_below rest' _ _ hm'.2 (by omega)]
      · simpa [Memory.read?, ha] using h addr

/-- The byte just written is the byte held. -/
theorem byteAt_write_same (s : State) (addr : Addr) (v : Byte) :
    State.byteAt { s with mem := Memory.write s.mem addr.toNat v } addr = v := by
  simp [State.byteAt]

/-- A write leaves the byte at every other address. -/
theorem byteAt_write_other (s : State) {addr other : Addr} (v : Byte) (h : other ≠ addr) :
    State.byteAt { s with mem := Memory.write s.mem addr.toNat v } other = s.byteAt other := by
  simp only [State.byteAt]
  rw [read?_write_other _ _ (fun hn => h (BitVec.eq_of_toNat_eq hn))]

/-- What an address reads as depends on memory alone. -/
theorem byteAt_congr {s t : State} (h : t.mem = s.mem) (addr : Addr) : t.byteAt addr = s.byteAt addr := by
  simp [State.byteAt, h]

/-- The kind of an address depends on the chip alone. -/
theorem kindAt_congr {s t : State} (h : t.chip = s.chip) (addr : Addr) : t.kindAt addr = s.kindAt addr := by
  simp [State.kindAt, h]

end Sys2Proof.Laws
end

