-- ==== Sys2Proof/Laws/State.lean ====
section
/-! SUPPORT. What each named update of the state leaves: one lemma per field per update. -/

namespace Sys2Proof.Laws

open Sys2Proof.Machine

@[simp] theorem advance_a (s : State) (len : Nat) : (advance s len).a = s.a := rfl
@[simp] theorem advance_x (s : State) (len : Nat) : (advance s len).x = s.x := rfl
@[simp] theorem advance_y (s : State) (len : Nat) : (advance s len).y = s.y := rfl
@[simp] theorem advance_sp (s : State) (len : Nat) : (advance s len).sp = s.sp := rfl
@[simp] theorem advance_pc (s : State) (len : Nat) : (advance s len).pc = s.pc + BitVec.ofNat 16 len := rfl
@[simp] theorem advance_p (s : State) (len : Nat) : (advance s len).p = s.p := rfl
@[simp] theorem advance_mem (s : State) (len : Nat) : (advance s len).mem = s.mem := rfl
@[simp] theorem advance_irq (s : State) (len : Nat) : (advance s len).irq = s.irq := rfl
@[simp] theorem advance_irqNext (s : State) (len : Nat) : (advance s len).irqNext = s.irqNext := rfl
@[simp] theorem advance_draws (s : State) (len : Nat) : (advance s len).draws = s.draws := rfl
@[simp] theorem advance_chip (s : State) (len : Nat) : (advance s len).chip = s.chip := rfl
@[simp] theorem advance_kindAt (s : State) (len : Nat) (addr : Addr) : (advance s len).kindAt addr = s.kindAt addr := rfl
@[simp] theorem advance_byteAt (s : State) (len : Nat) (addr : Addr) : (advance s len).byteAt addr = s.byteAt addr := rfl

@[simp] theorem drawBit_value (s : State) : (drawBit s).1 = Config.freeBit s.draws := rfl
@[simp] theorem drawBit_a (s : State) : (drawBit s).2.a = s.a := rfl
@[simp] theorem drawBit_x (s : State) : (drawBit s).2.x = s.x := rfl
@[simp] theorem drawBit_y (s : State) : (drawBit s).2.y = s.y := rfl
@[simp] theorem drawBit_sp (s : State) : (drawBit s).2.sp = s.sp := rfl
@[simp] theorem drawBit_pc (s : State) : (drawBit s).2.pc = s.pc := rfl
@[simp] theorem drawBit_p (s : State) : (drawBit s).2.p = s.p := rfl
@[simp] theorem drawBit_mem (s : State) : (drawBit s).2.mem = s.mem := rfl
@[simp] theorem drawBit_irq (s : State) : (drawBit s).2.irq = s.irq := rfl
@[simp] theorem drawBit_irqNext (s : State) : (drawBit s).2.irqNext = s.irqNext := rfl
@[simp] theorem drawBit_draws (s : State) : (drawBit s).2.draws = s.draws + 1 := rfl
@[simp] theorem drawBit_chip (s : State) : (drawBit s).2.chip = s.chip := rfl

@[simp] theorem drawByte_value (s : State) : (drawByte s).1 = Config.freeByte s.draws := rfl
@[simp] theorem drawByte_a (s : State) : (drawByte s).2.a = s.a := rfl
@[simp] theorem drawByte_x (s : State) : (drawByte s).2.x = s.x := rfl
@[simp] theorem drawByte_y (s : State) : (drawByte s).2.y = s.y := rfl
@[simp] theorem drawByte_sp (s : State) : (drawByte s).2.sp = s.sp := rfl
@[simp] theorem drawByte_pc (s : State) : (drawByte s).2.pc = s.pc := rfl
@[simp] theorem drawByte_p (s : State) : (drawByte s).2.p = s.p := rfl
@[simp] theorem drawByte_mem (s : State) : (drawByte s).2.mem = s.mem := rfl
@[simp] theorem drawByte_irq (s : State) : (drawByte s).2.irq = s.irq := rfl
@[simp] theorem drawByte_irqNext (s : State) : (drawByte s).2.irqNext = s.irqNext := rfl
@[simp] theorem drawByte_draws (s : State) : (drawByte s).2.draws = s.draws + 1 := rfl
@[simp] theorem drawByte_chip (s : State) : (drawByte s).2.chip = s.chip := rfl

@[simp] theorem nextInput_a (s : State) : (nextInput s).a = s.a := by unfold nextInput; split <;> rfl
@[simp] theorem nextInput_x (s : State) : (nextInput s).x = s.x := by unfold nextInput; split <;> rfl
@[simp] theorem nextInput_y (s : State) : (nextInput s).y = s.y := by unfold nextInput; split <;> rfl
@[simp] theorem nextInput_sp (s : State) : (nextInput s).sp = s.sp := by unfold nextInput; split <;> rfl
@[simp] theorem nextInput_pc (s : State) : (nextInput s).pc = s.pc := by unfold nextInput; split <;> rfl
@[simp] theorem nextInput_p (s : State) : (nextInput s).p = s.p := by unfold nextInput; split <;> rfl
@[simp] theorem nextInput_mem (s : State) : (nextInput s).mem = s.mem := by unfold nextInput; split <;> rfl
@[simp] theorem nextInput_draws (s : State) : (nextInput s).draws = s.draws := by unfold nextInput; split <;> rfl
@[simp] theorem nextInput_chip (s : State) : (nextInput s).chip = s.chip := by unfold nextInput; split <;> rfl
@[simp] theorem nextInput_kindAt (s : State) (addr : Addr) : (nextInput s).kindAt addr = s.kindAt addr :=
  kindAt_congr (nextInput_chip s) addr
@[simp] theorem nextInput_byteAt (s : State) (addr : Addr) : (nextInput s).byteAt addr = s.byteAt addr :=
  byteAt_congr (nextInput_mem s) addr
theorem nextInput_held (s : State) (h : s.irqNext = []) : nextInput s = s := by simp [nextInput, h]
theorem nextInput_cons (s : State) (input : IrqInput) (rest : List IrqInput) (h : s.irqNext = input :: rest) :
    nextInput s = { s with irq := input, irqNext := rest } := by simp [nextInput, h]

@[simp] theorem statusByte_a (s : State) : (statusByte s).2.a = s.a := by unfold statusByte; simp only []; split <;> rfl
@[simp] theorem statusByte_x (s : State) : (statusByte s).2.x = s.x := by unfold statusByte; simp only []; split <;> rfl
@[simp] theorem statusByte_y (s : State) : (statusByte s).2.y = s.y := by unfold statusByte; simp only []; split <;> rfl
@[simp] theorem statusByte_sp (s : State) : (statusByte s).2.sp = s.sp := by unfold statusByte; simp only []; split <;> rfl
@[simp] theorem statusByte_pc (s : State) : (statusByte s).2.pc = s.pc := by unfold statusByte; simp only []; split <;> rfl
@[simp] theorem statusByte_p (s : State) : (statusByte s).2.p = s.p := by unfold statusByte; simp only []; split <;> rfl
@[simp] theorem statusByte_mem (s : State) : (statusByte s).2.mem = s.mem := by unfold statusByte; simp only []; split <;> rfl
@[simp] theorem statusByte_irq (s : State) : (statusByte s).2.irq = s.irq := by unfold statusByte; simp only []; split <;> rfl
@[simp] theorem statusByte_irqNext (s : State) : (statusByte s).2.irqNext = s.irqNext := by unfold statusByte; simp only []; split <;> rfl
@[simp] theorem statusByte_chip (s : State) : (statusByte s).2.chip = s.chip := by unfold statusByte; simp only []; split <;> rfl

@[simp] theorem setNZ_n (r : Byte) (p : Flags) : (setNZ r p).n = r.getLsbD 7 := rfl
@[simp] theorem setNZ_v (r : Byte) (p : Flags) : (setNZ r p).v = p.v := rfl
@[simp] theorem setNZ_d (r : Byte) (p : Flags) : (setNZ r p).d = p.d := rfl
@[simp] theorem setNZ_i (r : Byte) (p : Flags) : (setNZ r p).i = p.i := rfl
@[simp] theorem setNZ_z (r : Byte) (p : Flags) : (setNZ r p).z = decide (r = 0#8) := rfl
@[simp] theorem setNZ_c (r : Byte) (p : Flags) : (setNZ r p).c = p.c := rfl

end Sys2Proof.Laws
end

