-- ==== Sys2Proof/Laws/Ops.lean ====
section
/-! SUPPORT. For each shared operation one lemma that says everything it can do, and when it succeeds. -/

namespace Sys2Proof.Laws

open Sys2Proof.Machine

/-- A step of two parts succeeds exactly where both do. -/
theorem bind_eq_ok {α β : Type} {x : Except Fault α} {f : α → Except Fault β} {b : β} :
    (x >>= f) = .ok b ↔ ∃ a, x = .ok a ∧ f a = .ok b := by
  cases x <;> simp [bind, Except.bind]

@[simp] theorem ok_bind {α β : Type} (a : α) (f : α → Except Fault β) : ((.ok a : Except Fault α) >>= f) = f a := rfl

@[simp] theorem error_bind {α β : Type} (e : Fault) (f : α → Except Fault β) :
    ((.error e : Except Fault α) >>= f) = .error e := rfl

@[simp] theorem outcome_ok (s : State) : outcome (.ok s) = .next s := rfl

@[simp] theorem outcome_error (f : Fault) : outcome (.error f) = .fault f := rfl

theorem outcome_eq_next {r : Except Fault State} {t : State} : outcome r = .next t ↔ r = .ok t := by
  cases r <;> simp [outcome]

/-- `memRead` gives the byte held, or a free byte in an I/O region. -/
theorem memRead_cases {s t : State} {addr : Addr} {v : Byte} (h : memRead s addr = .ok (v, t)) :
    ((s.kindAt addr = .rom ∨ s.kindAt addr = .ram) ∧ v = s.byteAt addr ∧ t = s) ∨
    (s.kindAt addr = .io ∧ v = Config.freeByte s.draws ∧ t = { s with draws := s.draws + 1 }) := by
  unfold memRead at h
  split at h <;> rename_i hk <;> simp only [drawByte, Except.ok.injEq, Prod.mk.injEq, reduceCtorEq] at h
  · exact .inl ⟨.inl hk, h.1.symm, h.2.symm⟩
  · exact .inl ⟨.inr hk, h.1.symm, h.2.symm⟩
  · exact .inr ⟨hk, h.1.symm, h.2.symm⟩

theorem memRead_rom (s : State) (addr : Addr) (h : s.kindAt addr = .rom) : memRead s addr = .ok (s.byteAt addr, s) := by
  simp [memRead, h]

theorem memRead_ram (s : State) (addr : Addr) (h : s.kindAt addr = .ram) : memRead s addr = .ok (s.byteAt addr, s) := by
  simp [memRead, h]

theorem memRead_io (s : State) (addr : Addr) (h : s.kindAt addr = .io) :
    memRead s addr = .ok (Config.freeByte s.draws, { s with draws := s.draws + 1 }) := by
  simp [memRead, h, drawByte]

theorem memRead_unmapped (s : State) (addr : Addr) (h : s.kindAt addr = .unmapped) :
    memRead s addr = .error (.unmappedRead addr) := by
  simp [memRead, h]

/-- A read changes nothing but the count of draws. -/
theorem memRead_frame {s t : State} {addr : Addr} {v : Byte} (h : memRead s addr = .ok (v, t)) :
    t = { s with draws := t.draws } := by
  rcases memRead_cases h with ⟨_, _, rfl⟩ | ⟨_, _, rfl⟩ <;> rfl

/-- `memWrite` stores in RAM and changes nothing in ROM and I/O. -/
theorem memWrite_cases {s t : State} {addr : Addr} {v : Byte} (h : memWrite s addr v = .ok t) :
    (s.kindAt addr = .ram ∧ t = { s with mem := Memory.write s.mem addr.toNat v }) ∨
    ((s.kindAt addr = .rom ∨ s.kindAt addr = .io) ∧ t = s) := by
  unfold memWrite at h
  split at h <;> simp_all

theorem memWrite_ram (s : State) (addr : Addr) (v : Byte) (h : s.kindAt addr = .ram) :
    memWrite s addr v = .ok { s with mem := Memory.write s.mem addr.toNat v } := by
  simp [memWrite, h]

theorem memWrite_rom (s : State) (addr : Addr) (v : Byte) (h : s.kindAt addr = .rom) : memWrite s addr v = .ok s := by
  simp [memWrite, h]

theorem memWrite_io (s : State) (addr : Addr) (v : Byte) (h : s.kindAt addr = .io) : memWrite s addr v = .ok s := by
  simp [memWrite, h]

theorem memWrite_unmapped (s : State) (addr : Addr) (v : Byte) (h : s.kindAt addr = .unmapped) :
    memWrite s addr v = .error (.unmappedWrite addr) := by
  simp [memWrite, h]

/-- A write changes nothing but memory. -/
theorem memWrite_frame {s t : State} {addr : Addr} {v : Byte} (h : memWrite s addr v = .ok t) :
    t = { s with mem := t.mem } := by
  rcases memWrite_cases h with ⟨_, rfl⟩ | ⟨_, rfl⟩ <;> rfl

/-- A write leaves the byte at every other address, and every byte that is not RAM. -/
theorem memWrite_byteAt {s t : State} {addr other : Addr} {v : Byte} (h : memWrite s addr v = .ok t)
    (ho : other ≠ addr ∨ s.kindAt other ≠ .ram) : t.byteAt other = s.byteAt other := by
  rcases memWrite_cases h with ⟨hk, rfl⟩ | ⟨_, rfl⟩
  · rcases ho with ho | ho
    · exact byteAt_write_other s v ho
    · exact byteAt_write_other s v (fun he => ho (he ▸ hk))
  · rfl

/-- A write keeps the canonical form of memory. -/
theorem memWrite_wf {s t : State} {addr : Addr} {v : Byte} (h : memWrite s addr v = .ok t)
    (hs : Memory.wf s.mem = true) : Memory.wf t.mem = true := by
  rcases memWrite_cases h with ⟨_, rfl⟩ | ⟨_, rfl⟩
  · exact write_wf s.mem addr v hs
  · exact hs

/-- `read16` is two byte reads in order. -/
theorem read16_cases {s t : State} {lo hi target : Addr} (h : read16 s lo hi = .ok (target, t)) :
    ∃ l s1 u, memRead s lo = .ok (l, s1) ∧ memRead s1 hi = .ok (u, t) ∧ target = addrOf u l := by
  simp only [read16, bind_eq_ok] at h
  obtain ⟨⟨l, s1⟩, h1, ⟨u, s2⟩, h2, h3⟩ := h
  simp only [pure, Except.pure, Except.ok.injEq, Prod.mk.injEq] at h3
  obtain ⟨rfl, rfl⟩ := h3
  exact ⟨l, s1, u, h1, h2, rfl⟩

theorem read16_frame {s t : State} {lo hi target : Addr} (h : read16 s lo hi = .ok (target, t)) :
    t = { s with draws := t.draws } := by
  obtain ⟨l, s1, u, h1, h2, _⟩ := read16_cases h
  rw [memRead_frame h2, memRead_frame h1]

/-- `push` is one write at the free stack location and a decrement of SP. -/
theorem push_cases {s t : State} {v : Byte} (h : push s v = .ok t) :
    ∃ s1, memWrite s (stackAddr s) v = .ok s1 ∧ t = { s1 with sp := s.sp - 1#8 } := by
  simp only [push, bind_eq_ok] at h
  obtain ⟨s1, h1, h2⟩ := h
  simp only [pure, Except.pure, Except.ok.injEq] at h2
  refine ⟨s1, h1, ?_⟩
  have hsp : s1.sp = s.sp := by rw [memWrite_frame h1]
  rw [← h2, hsp]

theorem push_frame {s t : State} {v : Byte} (h : push s v = .ok t) :
    t = { s with sp := s.sp - 1#8, mem := t.mem } := by
  obtain ⟨s1, h1, rfl⟩ := push_cases h
  rw [memWrite_frame h1]

/-- `pull` increments SP and reads the byte there. -/
theorem pull_cases {s t : State} {v : Byte} (h : pull s = .ok (v, t)) :
    memRead { s with sp := s.sp + 1#8 } (stackAddr { s with sp := s.sp + 1#8 }) = .ok (v, t) := h

theorem pull_frame {s t : State} {v : Byte} (h : pull s = .ok (v, t)) :
    t = { s with sp := s.sp + 1#8, draws := t.draws } := memRead_frame (pull_cases h)

theorem pushAddr_cases {s t : State} {addr : Addr} (h : pushAddr s addr = .ok t) :
    ∃ s1, push s (hiByte addr) = .ok s1 ∧ push s1 (loByte addr) = .ok t := by
  simp only [pushAddr, bind_eq_ok] at h
  exact h

theorem pullAddr_cases {s t : State} {addr : Addr} (h : pullAddr s = .ok (addr, t)) :
    ∃ lo s1 hi, pull s = .ok (lo, s1) ∧ pull s1 = .ok (hi, t) ∧ addr = addrOf hi lo := by
  simp only [pullAddr, bind_eq_ok] at h
  obtain ⟨⟨lo, s1⟩, h1, ⟨hi, s2⟩, h2, h3⟩ := h
  simp only [pure, Except.pure, Except.ok.injEq, Prod.mk.injEq] at h3
  obtain ⟨rfl, rfl⟩ := h3
  exact ⟨lo, s1, hi, h1, h2, rfl⟩

/-- The status byte draws bits 5 and 4, and bit 3 on CPU12. -/
theorem statusByte_cases (s : State) :
    ∃ bit3 : Bool, (s.chip.cpu ≠ .cpu12 → bit3 = s.p.d) ∧
      (statusByte s).1 = byteOfFlags s.p (Config.freeBit s.draws) (Config.freeBit (s.draws + 1)) bit3 := by
  cases h : s.chip.cpu with
  | cpu12 => exact ⟨_, fun hne => absurd rfl hne, by simp only [statusByte, drawBit, h]; rfl⟩
  | _ => exact ⟨s.p.d, fun _ => rfl, by simp only [statusByte, drawBit, h]⟩

/-- The status byte changes nothing but the count of draws. -/
theorem statusByte_frame (s : State) : (statusByte s).2 = { s with draws := (statusByte s).2.draws } := by
  unfold statusByte; simp only []; split <;> rfl

theorem pushStatus_cases {s t : State} (h : pushStatus s = .ok t) :
    push (statusByte s).2 (statusByte s).1 = .ok t := h

theorem pullStatus_cases {s t : State} (h : pullStatus s = .ok t) :
    ∃ b s1, pull s = .ok (b, s1) ∧ t = { s1 with p := flagsOfByte b } := by
  simp only [pullStatus, bind_eq_ok] at h
  obtain ⟨⟨b, s1⟩, h1, h2⟩ := h
  simp only [pure, Except.pure, Except.ok.injEq] at h2
  exact ⟨b, s1, h1, h2.symm⟩

/-- Interrupt entry is the two pushes of pc, the push of the status register and the read of the vector, in this order. -/
theorem enterInterrupt_cases {s t : State} (h : enterInterrupt s = .ok t) :
    ∃ s1 s2 vector target s3, pushAddr s s.pc = .ok s1 ∧ pushStatus s1 = .ok s2 ∧ s2.chip.irqVector = some vector ∧
      read16 { s2 with p := { s2.p with i := true } } vector (vector + 1#16) = .ok (target, s3) ∧
      t = { s3 with pc := target } := by
  simp only [enterInterrupt, bind_eq_ok] at h
  obtain ⟨s1, h1, s2, h2, h3⟩ := h
  split at h3
  · cases h3
  · rename_i vector hv
    simp only [bind_eq_ok] at h3
    obtain ⟨⟨target, s3⟩, h4, h5⟩ := h3
    simp only [pure, Except.pure, Except.ok.injEq] at h5
    exact ⟨s1, s2, vector, target, s3, h1, h2, hv, h4, h5.symm⟩

/-- Return from interrupt is the pull of the status register and of pc, in this order. -/
theorem returnFromInterrupt_cases {s t : State} (h : returnFromInterrupt s = .ok t) :
    ∃ s1 target s2, pullStatus s = .ok s1 ∧ pullAddr s1 = .ok (target, s2) ∧ t = { s2 with pc := target } := by
  simp only [returnFromInterrupt, bind_eq_ok] at h
  obtain ⟨s1, h1, ⟨target, s2⟩, h2, h3⟩ := h
  simp only [pure, Except.pure, Except.ok.injEq] at h3
  exact ⟨s1, target, s2, h1, h2, h3.symm⟩

/-- The computation of an effective address changes nothing but the count of draws. -/
theorem effAddr_frame {s t : State} {place : Place} {ea : Addr} (h : effAddr s place = .ok (ea, t)) :
    t = { s with draws := t.draws } := by
  cases place with
  | indx aa => exact read16_frame h
  | indy aa =>
    simp only [effAddr, bind_eq_ok] at h
    obtain ⟨⟨base, s1⟩, h1, h2⟩ := h
    simp only [pure, Except.pure, Except.ok.injEq, Prod.mk.injEq] at h2
    obtain ⟨_, rfl⟩ := h2
    exact read16_frame h1
  | _ =>
    simp only [effAddr, Except.ok.injEq, Prod.mk.injEq] at h
    obtain ⟨_, rfl⟩ := h
    rfl

/-- `readOperand` is the immediate byte, or a read at the effective address. -/
theorem readOperand_cases {s t : State} {o : Operand} {m : Byte} (h : readOperand s o = .ok (m, t)) :
    (o = .imm m ∧ t = s) ∨
    (∃ place ea s1, o = .mem place ∧ effAddr s place = .ok (ea, s1) ∧ memRead s1 ea = .ok (m, t)) := by
  cases o with
  | imm dd =>
    simp only [readOperand, Except.ok.injEq, Prod.mk.injEq] at h
    obtain ⟨rfl, rfl⟩ := h
    exact .inl ⟨rfl, rfl⟩
  | mem place =>
    simp only [readOperand, bind_eq_ok] at h
    obtain ⟨⟨ea, s1⟩, h1, h2⟩ := h
    exact .inr ⟨place, ea, s1, rfl, h1, h2⟩

/-- Reading an operand changes nothing but the count of draws. -/
theorem readOperand_frame {s t : State} {o : Operand} {m : Byte} (h : readOperand s o = .ok (m, t)) :
    t = { s with draws := t.draws } := by
  rcases readOperand_cases h with ⟨_, rfl⟩ | ⟨place, ea, s1, _, h1, h2⟩
  · rfl
  · rw [memRead_frame h2, effAddr_frame h1]

/-- `readOp` reads its operand, then applies its effect and moves on. -/
theorem readOp_cases {o : Operand} {f : Byte → State → State} {s t : State} (h : readOp o f s = .next t) :
    ∃ m s1, readOperand s o = .ok (m, s1) ∧ t = advance (f m s1) (operandLength o) := by
  simp only [readOp, outcome_eq_next, bind_eq_ok] at h
  obtain ⟨⟨m, s1⟩, h1, h2⟩ := h
  simp only [pure, Except.pure, Except.ok.injEq] at h2
  exact ⟨m, s1, h1, h2.symm⟩

theorem readOp_next {o : Operand} {f : Byte → State → State} {s s1 : State} {m : Byte}
    (h : readOperand s o = .ok (m, s1)) : readOp o f s = .next (advance (f m s1) (operandLength o)) := by
  simp [readOp, h, pure, Except.pure]

/-- `storeOp` computes its effective address, stores, and moves on. -/
theorem storeOp_cases {place : Place} {v : State → Byte} {s t : State} (h : storeOp place v s = .next t) :
    ∃ ea s1 s2, effAddr s place = .ok (ea, s1) ∧ memWrite s1 ea (v s1) = .ok s2 ∧ t = advance s2 (placeLength place) := by
  simp only [storeOp, outcome_eq_next, bind_eq_ok] at h
  obtain ⟨⟨ea, s1⟩, h1, s2, h2, h3⟩ := h
  simp only [pure, Except.pure, Except.ok.injEq] at h3
  exact ⟨ea, s1, s2, h1, h2, h3.symm⟩

/-- `modifyOp` computes its effective address, reads, writes its result there, writes its flags, and moves on. -/
theorem modifyOp_cases {place : Place} {f : Byte → Flags → Byte × Flags} {s t : State}
    (h : modifyOp place f s = .next t) :
    ∃ ea s1 v s2 s3, effAddr s place = .ok (ea, s1) ∧ memRead s1 ea = .ok (v, s2) ∧
      memWrite s2 ea (f v s2.p).1 = .ok s3 ∧ t = advance { s3 with p := (f v s2.p).2 } (placeLength place) := by
  simp only [modifyOp, outcome_eq_next, bind_eq_ok] at h
  obtain ⟨⟨ea, s1⟩, h1, ⟨v, s2⟩, h2, s3, h3, h4⟩ := h
  simp only [pure, Except.pure, Except.ok.injEq] at h4
  exact ⟨ea, s1, v, s2, s3, h1, h2, h3, h4.symm⟩

theorem storeOp_next {place : Place} {v : State → Byte} {s s1 s2 : State} {ea : Addr}
    (h : effAddr s place = .ok (ea, s1)) (hw : memWrite s1 ea (v s1) = .ok s2) :
    storeOp place v s = .next (advance s2 (placeLength place)) := by
  simp [storeOp, h, hw, pure, Except.pure]

theorem modifyOp_next {place : Place} {f : Byte → Flags → Byte × Flags} {s s1 s2 s3 : State} {ea : Addr} {v : Byte}
    (h : effAddr s place = .ok (ea, s1)) (hr : memRead s1 ea = .ok (v, s2)) (hw : memWrite s2 ea (f v s2.p).1 = .ok s3) :
    modifyOp place f s = .next (advance { s3 with p := (f v s2.p).2 } (placeLength place)) := by
  simp [modifyOp, h, hr, hw, pure, Except.pure]

theorem accumulatorOp_next (f : Byte → Flags → Byte × Flags) (s : State) :
    accumulatorOp f s = .next (advance { s with a := (f s.a s.p).1, p := (f s.a s.p).2 } 1) := rfl

theorem impliedOp_next (f : State → State) (s : State) : impliedOp f s = .next (advance (f s) 1) := rfl

end Sys2Proof.Laws
end

