-- ==== Sys2Proof/Laws/PerInstr.lean ====
section
/-! SUPPORT. Facts about each instruction as syntax, one lemma per constructor. -/

namespace Sys2Proof.Laws

/-- In both maps the encoding of an instruction has the length of its addressing mode (R80, R81, R84). -/
def EncodedLength.Statement (i : Instr) : Prop :=
  ∀ map : OpMap, (encode map i).length = i.length

theorem EncodedLength.adcImm (dd : Byte) : EncodedLength.Statement (.adcImm dd) := fun _ => rfl
theorem EncodedLength.adcZp (aa : Byte) : EncodedLength.Statement (.adcZp aa) := fun _ => rfl
theorem EncodedLength.adcZpx (aa : Byte) : EncodedLength.Statement (.adcZpx aa) := fun _ => rfl
theorem EncodedLength.adcAbs (aaaa : Addr) : EncodedLength.Statement (.adcAbs aaaa) := fun _ => rfl
theorem EncodedLength.adcAbsx (aaaa : Addr) : EncodedLength.Statement (.adcAbsx aaaa) := fun _ => rfl
theorem EncodedLength.adcAbsy (aaaa : Addr) : EncodedLength.Statement (.adcAbsy aaaa) := fun _ => rfl
theorem EncodedLength.adcIndx (aa : Byte) : EncodedLength.Statement (.adcIndx aa) := fun _ => rfl
theorem EncodedLength.adcIndy (aa : Byte) : EncodedLength.Statement (.adcIndy aa) := fun _ => rfl
theorem EncodedLength.andImm (dd : Byte) : EncodedLength.Statement (.andImm dd) := fun _ => rfl
theorem EncodedLength.andZp (aa : Byte) : EncodedLength.Statement (.andZp aa) := fun _ => rfl
theorem EncodedLength.andZpx (aa : Byte) : EncodedLength.Statement (.andZpx aa) := fun _ => rfl
theorem EncodedLength.andAbs (aaaa : Addr) : EncodedLength.Statement (.andAbs aaaa) := fun _ => rfl
theorem EncodedLength.andAbsx (aaaa : Addr) : EncodedLength.Statement (.andAbsx aaaa) := fun _ => rfl
theorem EncodedLength.andAbsy (aaaa : Addr) : EncodedLength.Statement (.andAbsy aaaa) := fun _ => rfl
theorem EncodedLength.andIndx (aa : Byte) : EncodedLength.Statement (.andIndx aa) := fun _ => rfl
theorem EncodedLength.andIndy (aa : Byte) : EncodedLength.Statement (.andIndy aa) := fun _ => rfl
theorem EncodedLength.aslAcc : EncodedLength.Statement (.aslAcc) := fun _ => rfl
theorem EncodedLength.aslZp (aa : Byte) : EncodedLength.Statement (.aslZp aa) := fun _ => rfl
theorem EncodedLength.aslZpx (aa : Byte) : EncodedLength.Statement (.aslZpx aa) := fun _ => rfl
theorem EncodedLength.aslAbs (aaaa : Addr) : EncodedLength.Statement (.aslAbs aaaa) := fun _ => rfl
theorem EncodedLength.aslAbsx (aaaa : Addr) : EncodedLength.Statement (.aslAbsx aaaa) := fun _ => rfl
theorem EncodedLength.bcc (rel : Byte) : EncodedLength.Statement (.bcc rel) := fun _ => rfl
theorem EncodedLength.bcs (rel : Byte) : EncodedLength.Statement (.bcs rel) := fun _ => rfl
theorem EncodedLength.beq (rel : Byte) : EncodedLength.Statement (.beq rel) := fun _ => rfl
theorem EncodedLength.bmi (rel : Byte) : EncodedLength.Statement (.bmi rel) := fun _ => rfl
theorem EncodedLength.bne (rel : Byte) : EncodedLength.Statement (.bne rel) := fun _ => rfl
theorem EncodedLength.bpl (rel : Byte) : EncodedLength.Statement (.bpl rel) := fun _ => rfl
theorem EncodedLength.bvc (rel : Byte) : EncodedLength.Statement (.bvc rel) := fun _ => rfl
theorem EncodedLength.bvs (rel : Byte) : EncodedLength.Statement (.bvs rel) := fun _ => rfl
theorem EncodedLength.bitZp (aa : Byte) : EncodedLength.Statement (.bitZp aa) := fun _ => rfl
theorem EncodedLength.bitAbs (aaaa : Addr) : EncodedLength.Statement (.bitAbs aaaa) := fun _ => rfl
theorem EncodedLength.clc : EncodedLength.Statement (.clc) := fun _ => rfl
theorem EncodedLength.cld : EncodedLength.Statement (.cld) := fun _ => rfl
theorem EncodedLength.cli : EncodedLength.Statement (.cli) := fun _ => rfl
theorem EncodedLength.clr0 (aa : Byte) : EncodedLength.Statement (.clr0 aa) := fun _ => rfl
theorem EncodedLength.clr1 (aa : Byte) : EncodedLength.Statement (.clr1 aa) := fun _ => rfl
theorem EncodedLength.clr2 (aa : Byte) : EncodedLength.Statement (.clr2 aa) := fun _ => rfl
theorem EncodedLength.clr3 (aa : Byte) : EncodedLength.Statement (.clr3 aa) := fun _ => rfl
theorem EncodedLength.clr4 (aa : Byte) : EncodedLength.Statement (.clr4 aa) := fun _ => rfl
theorem EncodedLength.clr5 (aa : Byte) : EncodedLength.Statement (.clr5 aa) := fun _ => rfl
theorem EncodedLength.clr6 (aa : Byte) : EncodedLength.Statement (.clr6 aa) := fun _ => rfl
theorem EncodedLength.clr7 (aa : Byte) : EncodedLength.Statement (.clr7 aa) := fun _ => rfl
theorem EncodedLength.clv : EncodedLength.Statement (.clv) := fun _ => rfl
theorem EncodedLength.cmpImm (dd : Byte) : EncodedLength.Statement (.cmpImm dd) := fun _ => rfl
theorem EncodedLength.cmpZp (aa : Byte) : EncodedLength.Statement (.cmpZp aa) := fun _ => rfl
theorem EncodedLength.cmpZpx (aa : Byte) : EncodedLength.Statement (.cmpZpx aa) := fun _ => rfl
theorem EncodedLength.cmpAbs (aaaa : Addr) : EncodedLength.Statement (.cmpAbs aaaa) := fun _ => rfl
theorem EncodedLength.cmpAbsx (aaaa : Addr) : EncodedLength.Statement (.cmpAbsx aaaa) := fun _ => rfl
theorem EncodedLength.cmpAbsy (aaaa : Addr) : EncodedLength.Statement (.cmpAbsy aaaa) := fun _ => rfl
theorem EncodedLength.cmpIndx (aa : Byte) : EncodedLength.Statement (.cmpIndx aa) := fun _ => rfl
theorem EncodedLength.cmpIndy (aa : Byte) : EncodedLength.Statement (.cmpIndy aa) := fun _ => rfl
theorem EncodedLength.cpxImm (dd : Byte) : EncodedLength.Statement (.cpxImm dd) := fun _ => rfl
theorem EncodedLength.cpxZp (aa : Byte) : EncodedLength.Statement (.cpxZp aa) := fun _ => rfl
theorem EncodedLength.cpxAbs (aaaa : Addr) : EncodedLength.Statement (.cpxAbs aaaa) := fun _ => rfl
theorem EncodedLength.cpyImm (dd : Byte) : EncodedLength.Statement (.cpyImm dd) := fun _ => rfl
theorem EncodedLength.cpyZp (aa : Byte) : EncodedLength.Statement (.cpyZp aa) := fun _ => rfl
theorem EncodedLength.cpyAbs (aaaa : Addr) : EncodedLength.Statement (.cpyAbs aaaa) := fun _ => rfl
theorem EncodedLength.decZp (aa : Byte) : EncodedLength.Statement (.decZp aa) := fun _ => rfl
theorem EncodedLength.decZpx (aa : Byte) : EncodedLength.Statement (.decZpx aa) := fun _ => rfl
theorem EncodedLength.decAbs (aaaa : Addr) : EncodedLength.Statement (.decAbs aaaa) := fun _ => rfl
theorem EncodedLength.decAbsx (aaaa : Addr) : EncodedLength.Statement (.decAbsx aaaa) := fun _ => rfl
theorem EncodedLength.dex : EncodedLength.Statement (.dex) := fun _ => rfl
theorem EncodedLength.dey : EncodedLength.Statement (.dey) := fun _ => rfl
theorem EncodedLength.eorImm (dd : Byte) : EncodedLength.Statement (.eorImm dd) := fun _ => rfl
theorem EncodedLength.eorZp (aa : Byte) : EncodedLength.Statement (.eorZp aa) := fun _ => rfl
theorem EncodedLength.eorZpx (aa : Byte) : EncodedLength.Statement (.eorZpx aa) := fun _ => rfl
theorem EncodedLength.eorAbs (aaaa : Addr) : EncodedLength.Statement (.eorAbs aaaa) := fun _ => rfl
theorem EncodedLength.eorAbsx (aaaa : Addr) : EncodedLength.Statement (.eorAbsx aaaa) := fun _ => rfl
theorem EncodedLength.eorAbsy (aaaa : Addr) : EncodedLength.Statement (.eorAbsy aaaa) := fun _ => rfl
theorem EncodedLength.eorIndx (aa : Byte) : EncodedLength.Statement (.eorIndx aa) := fun _ => rfl
theorem EncodedLength.eorIndy (aa : Byte) : EncodedLength.Statement (.eorIndy aa) := fun _ => rfl
theorem EncodedLength.incZp (aa : Byte) : EncodedLength.Statement (.incZp aa) := fun _ => rfl
theorem EncodedLength.incZpx (aa : Byte) : EncodedLength.Statement (.incZpx aa) := fun _ => rfl
theorem EncodedLength.incAbs (aaaa : Addr) : EncodedLength.Statement (.incAbs aaaa) := fun _ => rfl
theorem EncodedLength.incAbsx (aaaa : Addr) : EncodedLength.Statement (.incAbsx aaaa) := fun _ => rfl
theorem EncodedLength.inv0 (aa : Byte) : EncodedLength.Statement (.inv0 aa) := fun _ => rfl
theorem EncodedLength.inv1 (aa : Byte) : EncodedLength.Statement (.inv1 aa) := fun _ => rfl
theorem EncodedLength.inv2 (aa : Byte) : EncodedLength.Statement (.inv2 aa) := fun _ => rfl
theorem EncodedLength.inv3 (aa : Byte) : EncodedLength.Statement (.inv3 aa) := fun _ => rfl
theorem EncodedLength.inv4 (aa : Byte) : EncodedLength.Statement (.inv4 aa) := fun _ => rfl
theorem EncodedLength.inv5 (aa : Byte) : EncodedLength.Statement (.inv5 aa) := fun _ => rfl
theorem EncodedLength.inv6 (aa : Byte) : EncodedLength.Statement (.inv6 aa) := fun _ => rfl
theorem EncodedLength.inv7 (aa : Byte) : EncodedLength.Statement (.inv7 aa) := fun _ => rfl
theorem EncodedLength.inx : EncodedLength.Statement (.inx) := fun _ => rfl
theorem EncodedLength.iny : EncodedLength.Statement (.iny) := fun _ => rfl
theorem EncodedLength.jmpAbs (aaaa : Addr) : EncodedLength.Statement (.jmpAbs aaaa) := fun _ => rfl
theorem EncodedLength.jmpInd (aaaa : Addr) : EncodedLength.Statement (.jmpInd aaaa) := fun _ => rfl
theorem EncodedLength.jsr (aaaa : Addr) : EncodedLength.Statement (.jsr aaaa) := fun _ => rfl
theorem EncodedLength.ldaImm (dd : Byte) : EncodedLength.Statement (.ldaImm dd) := fun _ => rfl
theorem EncodedLength.ldaZp (aa : Byte) : EncodedLength.Statement (.ldaZp aa) := fun _ => rfl
theorem EncodedLength.ldaZpx (aa : Byte) : EncodedLength.Statement (.ldaZpx aa) := fun _ => rfl
theorem EncodedLength.ldaAbs (aaaa : Addr) : EncodedLength.Statement (.ldaAbs aaaa) := fun _ => rfl
theorem EncodedLength.ldaAbsx (aaaa : Addr) : EncodedLength.Statement (.ldaAbsx aaaa) := fun _ => rfl
theorem EncodedLength.ldaAbsy (aaaa : Addr) : EncodedLength.Statement (.ldaAbsy aaaa) := fun _ => rfl
theorem EncodedLength.ldaIndx (aa : Byte) : EncodedLength.Statement (.ldaIndx aa) := fun _ => rfl
theorem EncodedLength.ldaIndy (aa : Byte) : EncodedLength.Statement (.ldaIndy aa) := fun _ => rfl
theorem EncodedLength.ldxImm (dd : Byte) : EncodedLength.Statement (.ldxImm dd) := fun _ => rfl
theorem EncodedLength.ldxZp (aa : Byte) : EncodedLength.Statement (.ldxZp aa) := fun _ => rfl
theorem EncodedLength.ldxZpy (aa : Byte) : EncodedLength.Statement (.ldxZpy aa) := fun _ => rfl
theorem EncodedLength.ldxAbs (aaaa : Addr) : EncodedLength.Statement (.ldxAbs aaaa) := fun _ => rfl
theorem EncodedLength.ldxAbsy (aaaa : Addr) : EncodedLength.Statement (.ldxAbsy aaaa) := fun _ => rfl
theorem EncodedLength.ldyImm (dd : Byte) : EncodedLength.Statement (.ldyImm dd) := fun _ => rfl
theorem EncodedLength.ldyZp (aa : Byte) : EncodedLength.Statement (.ldyZp aa) := fun _ => rfl
theorem EncodedLength.ldyZpx (aa : Byte) : EncodedLength.Statement (.ldyZpx aa) := fun _ => rfl
theorem EncodedLength.ldyAbs (aaaa : Addr) : EncodedLength.Statement (.ldyAbs aaaa) := fun _ => rfl
theorem EncodedLength.ldyAbsx (aaaa : Addr) : EncodedLength.Statement (.ldyAbsx aaaa) := fun _ => rfl
theorem EncodedLength.lsrAcc : EncodedLength.Statement (.lsrAcc) := fun _ => rfl
theorem EncodedLength.lsrZp (aa : Byte) : EncodedLength.Statement (.lsrZp aa) := fun _ => rfl
theorem EncodedLength.lsrZpx (aa : Byte) : EncodedLength.Statement (.lsrZpx aa) := fun _ => rfl
theorem EncodedLength.lsrAbs (aaaa : Addr) : EncodedLength.Statement (.lsrAbs aaaa) := fun _ => rfl
theorem EncodedLength.lsrAbsx (aaaa : Addr) : EncodedLength.Statement (.lsrAbsx aaaa) := fun _ => rfl
theorem EncodedLength.nop : EncodedLength.Statement (.nop) := fun _ => rfl
theorem EncodedLength.oraImm (dd : Byte) : EncodedLength.Statement (.oraImm dd) := fun _ => rfl
theorem EncodedLength.oraZp (aa : Byte) : EncodedLength.Statement (.oraZp aa) := fun _ => rfl
theorem EncodedLength.oraZpx (aa : Byte) : EncodedLength.Statement (.oraZpx aa) := fun _ => rfl
theorem EncodedLength.oraAbs (aaaa : Addr) : EncodedLength.Statement (.oraAbs aaaa) := fun _ => rfl
theorem EncodedLength.oraAbsx (aaaa : Addr) : EncodedLength.Statement (.oraAbsx aaaa) := fun _ => rfl
theorem EncodedLength.oraAbsy (aaaa : Addr) : EncodedLength.Statement (.oraAbsy aaaa) := fun _ => rfl
theorem EncodedLength.oraIndx (aa : Byte) : EncodedLength.Statement (.oraIndx aa) := fun _ => rfl
theorem EncodedLength.oraIndy (aa : Byte) : EncodedLength.Statement (.oraIndy aa) := fun _ => rfl
theorem EncodedLength.pha : EncodedLength.Statement (.pha) := fun _ => rfl
theorem EncodedLength.php : EncodedLength.Statement (.php) := fun _ => rfl
theorem EncodedLength.pla : EncodedLength.Statement (.pla) := fun _ => rfl
theorem EncodedLength.plp : EncodedLength.Statement (.plp) := fun _ => rfl
theorem EncodedLength.rolAcc : EncodedLength.Statement (.rolAcc) := fun _ => rfl
theorem EncodedLength.rolZp (aa : Byte) : EncodedLength.Statement (.rolZp aa) := fun _ => rfl
theorem EncodedLength.rolZpx (aa : Byte) : EncodedLength.Statement (.rolZpx aa) := fun _ => rfl
theorem EncodedLength.rolAbs (aaaa : Addr) : EncodedLength.Statement (.rolAbs aaaa) := fun _ => rfl
theorem EncodedLength.rolAbsx (aaaa : Addr) : EncodedLength.Statement (.rolAbsx aaaa) := fun _ => rfl
theorem EncodedLength.rorAcc : EncodedLength.Statement (.rorAcc) := fun _ => rfl
theorem EncodedLength.rorZp (aa : Byte) : EncodedLength.Statement (.rorZp aa) := fun _ => rfl
theorem EncodedLength.rorZpx (aa : Byte) : EncodedLength.Statement (.rorZpx aa) := fun _ => rfl
theorem EncodedLength.rorAbs (aaaa : Addr) : EncodedLength.Statement (.rorAbs aaaa) := fun _ => rfl
theorem EncodedLength.rorAbsx (aaaa : Addr) : EncodedLength.Statement (.rorAbsx aaaa) := fun _ => rfl
theorem EncodedLength.rti : EncodedLength.Statement (.rti) := fun _ => rfl
theorem EncodedLength.rts : EncodedLength.Statement (.rts) := fun _ => rfl
theorem EncodedLength.sbcImm (dd : Byte) : EncodedLength.Statement (.sbcImm dd) := fun _ => rfl
theorem EncodedLength.sbcZp (aa : Byte) : EncodedLength.Statement (.sbcZp aa) := fun _ => rfl
theorem EncodedLength.sbcZpx (aa : Byte) : EncodedLength.Statement (.sbcZpx aa) := fun _ => rfl
theorem EncodedLength.sbcAbs (aaaa : Addr) : EncodedLength.Statement (.sbcAbs aaaa) := fun _ => rfl
theorem EncodedLength.sbcAbsx (aaaa : Addr) : EncodedLength.Statement (.sbcAbsx aaaa) := fun _ => rfl
theorem EncodedLength.sbcAbsy (aaaa : Addr) : EncodedLength.Statement (.sbcAbsy aaaa) := fun _ => rfl
theorem EncodedLength.sbcIndx (aa : Byte) : EncodedLength.Statement (.sbcIndx aa) := fun _ => rfl
theorem EncodedLength.sbcIndy (aa : Byte) : EncodedLength.Statement (.sbcIndy aa) := fun _ => rfl
theorem EncodedLength.sec : EncodedLength.Statement (.sec) := fun _ => rfl
theorem EncodedLength.sed : EncodedLength.Statement (.sed) := fun _ => rfl
theorem EncodedLength.sei : EncodedLength.Statement (.sei) := fun _ => rfl
theorem EncodedLength.set0 (aa : Byte) : EncodedLength.Statement (.set0 aa) := fun _ => rfl
theorem EncodedLength.set1 (aa : Byte) : EncodedLength.Statement (.set1 aa) := fun _ => rfl
theorem EncodedLength.set2 (aa : Byte) : EncodedLength.Statement (.set2 aa) := fun _ => rfl
theorem EncodedLength.set3 (aa : Byte) : EncodedLength.Statement (.set3 aa) := fun _ => rfl
theorem EncodedLength.set4 (aa : Byte) : EncodedLength.Statement (.set4 aa) := fun _ => rfl
theorem EncodedLength.set5 (aa : Byte) : EncodedLength.Statement (.set5 aa) := fun _ => rfl
theorem EncodedLength.set6 (aa : Byte) : EncodedLength.Statement (.set6 aa) := fun _ => rfl
theorem EncodedLength.set7 (aa : Byte) : EncodedLength.Statement (.set7 aa) := fun _ => rfl
theorem EncodedLength.staZp (aa : Byte) : EncodedLength.Statement (.staZp aa) := fun _ => rfl
theorem EncodedLength.staZpx (aa : Byte) : EncodedLength.Statement (.staZpx aa) := fun _ => rfl
theorem EncodedLength.staAbs (aaaa : Addr) : EncodedLength.Statement (.staAbs aaaa) := fun _ => rfl
theorem EncodedLength.staAbsx (aaaa : Addr) : EncodedLength.Statement (.staAbsx aaaa) := fun _ => rfl
theorem EncodedLength.staAbsy (aaaa : Addr) : EncodedLength.Statement (.staAbsy aaaa) := fun _ => rfl
theorem EncodedLength.staIndx (aa : Byte) : EncodedLength.Statement (.staIndx aa) := fun _ => rfl
theorem EncodedLength.staIndy (aa : Byte) : EncodedLength.Statement (.staIndy aa) := fun _ => rfl
theorem EncodedLength.stxZp (aa : Byte) : EncodedLength.Statement (.stxZp aa) := fun _ => rfl
theorem EncodedLength.stxZpy (aa : Byte) : EncodedLength.Statement (.stxZpy aa) := fun _ => rfl
theorem EncodedLength.stxAbs (aaaa : Addr) : EncodedLength.Statement (.stxAbs aaaa) := fun _ => rfl
theorem EncodedLength.styZp (aa : Byte) : EncodedLength.Statement (.styZp aa) := fun _ => rfl
theorem EncodedLength.styZpx (aa : Byte) : EncodedLength.Statement (.styZpx aa) := fun _ => rfl
theorem EncodedLength.styAbs (aaaa : Addr) : EncodedLength.Statement (.styAbs aaaa) := fun _ => rfl
theorem EncodedLength.tax : EncodedLength.Statement (.tax) := fun _ => rfl
theorem EncodedLength.tay : EncodedLength.Statement (.tay) := fun _ => rfl
theorem EncodedLength.tst0 (aa : Byte) : EncodedLength.Statement (.tst0 aa) := fun _ => rfl
theorem EncodedLength.tst1 (aa : Byte) : EncodedLength.Statement (.tst1 aa) := fun _ => rfl
theorem EncodedLength.tst2 (aa : Byte) : EncodedLength.Statement (.tst2 aa) := fun _ => rfl
theorem EncodedLength.tst3 (aa : Byte) : EncodedLength.Statement (.tst3 aa) := fun _ => rfl
theorem EncodedLength.tst4 (aa : Byte) : EncodedLength.Statement (.tst4 aa) := fun _ => rfl
theorem EncodedLength.tst5 (aa : Byte) : EncodedLength.Statement (.tst5 aa) := fun _ => rfl
theorem EncodedLength.tst6 (aa : Byte) : EncodedLength.Statement (.tst6 aa) := fun _ => rfl
theorem EncodedLength.tst7 (aa : Byte) : EncodedLength.Statement (.tst7 aa) := fun _ => rfl
theorem EncodedLength.tsx : EncodedLength.Statement (.tsx) := fun _ => rfl
theorem EncodedLength.txa : EncodedLength.Statement (.txa) := fun _ => rfl
theorem EncodedLength.txs : EncodedLength.Statement (.txs) := fun _ => rfl
theorem EncodedLength.tya : EncodedLength.Statement (.tya) := fun _ => rfl

end Sys2Proof.Laws
end

