-- ==== Sys2Proof/Laws/Step.lean ====
section
/-! SUPPORT. What forming an address, fetching and one step can do. -/

namespace Sys2Proof.Laws

open Sys2Proof.Machine

theorem addrOf_toNat (hi lo : Byte) : (addrOf hi lo).toNat = 256 * hi.toNat + lo.toNat := by
  show BitVec.toNat (hi ++ lo : BitVec (8 + 8)) = _
  rw [BitVec.toNat_append, ← Nat.shiftLeft_add_eq_or_of_lt lo.isLt, Nat.shiftLeft_eq]
  omega

theorem hiByte_toNat (addr : Addr) : (hiByte addr).toNat = addr.toNat / 256 := by
  have := addr.isLt
  simp only [hiByte, BitVec.extractLsb'_toNat, Nat.shiftRight_eq_div_pow]
  omega

theorem loByte_toNat (addr : Addr) : (loByte addr).toNat = addr.toNat % 256 := by
  simp [loByte, BitVec.extractLsb'_toNat]

@[simp] theorem addrOf_hiByte_loByte (addr : Addr) : addrOf (hiByte addr) (loByte addr) = addr := by
  apply BitVec.eq_of_toNat_eq
  rw [addrOf_toNat, hiByte_toNat, loByte_toNat]
  omega

theorem zeroPage_toNat (aa : Byte) : (zeroPage aa).toNat = aa.toNat := by
  simp [zeroPage, addrOf_toNat]

theorem addrOf_inj {page lo lo' : Byte} : addrOf page lo = addrOf page lo' ↔ lo = lo' := by
  constructor
  · intro h
    have := congrArg BitVec.toNat h
    rw [addrOf_toNat, addrOf_toNat] at this
    exact BitVec.eq_of_toNat_eq (by omega)
  · rintro rfl; rfl

/-- A fetch reads one, two or three bytes in order and gives an instruction the CPU type has. -/
theorem fetch_cases {s t : State} {i : Instr} (h : fetch s = .ok (i, t)) :
    ∃ b s1 form, memRead s s.pc = .ok (b, s1) ∧ decodeOpcode s.chip.opMap b = some form ∧
      form.sample.wellFormed s.chip.cpu = true ∧
      ((form = .one i ∧ t = s1) ∨
       (∃ f b1, form = .two f ∧ memRead s1 (s.pc + 1#16) = .ok (b1, t) ∧ i = f b1) ∨
       (∃ f b1 s2 b2, form = .three f ∧ memRead s1 (s.pc + 1#16) = .ok (b1, s2) ∧
         memRead s2 (s.pc + 2#16) = .ok (b2, t) ∧ i = f (addrOf b2 b1))) := by
  simp only [fetch, bind_eq_ok] at h
  obtain ⟨⟨b, s1⟩, h1, h2⟩ := h
  simp only at h2
  split at h2
  · cases h2
  · rename_i form hf
    split at h2
    · rename_i hw
      refine ⟨b, s1, form, h1, hf, hw, ?_⟩
      split at h2
      · simp only [pure, Except.pure, Except.ok.injEq, Prod.mk.injEq] at h2
        exact .inl ⟨by rw [h2.1], h2.2.symm⟩
      · simp only [bind_eq_ok] at h2
        obtain ⟨⟨b1, s2⟩, h3, h4⟩ := h2
        simp only [pure, Except.pure, Except.ok.injEq, Prod.mk.injEq] at h4
        obtain ⟨rfl, rfl⟩ := h4
        exact .inr (.inl ⟨_, b1, rfl, h3, rfl⟩)
      · simp only [bind_eq_ok] at h2
        obtain ⟨⟨b1, s2⟩, h3, ⟨b2, s3⟩, h5, h4⟩ := h2
        simp only [pure, Except.pure, Except.ok.injEq, Prod.mk.injEq] at h4
        obtain ⟨rfl, rfl⟩ := h4
        exact .inr (.inr ⟨_, b1, s2, b2, rfl, h3, h5, rfl⟩)
    · cases h2

/-- A fetch changes nothing but the count of draws. -/
theorem fetch_frame {s t : State} {i : Instr} (h : fetch s = .ok (i, t)) : t = { s with draws := t.draws } := by
  obtain ⟨b, s1, form, h1, _, _, h2⟩ := fetch_cases h
  rcases h2 with ⟨_, rfl⟩ | ⟨f, b1, _, h3, _⟩ | ⟨f, b1, s2, b2, _, h3, h4, _⟩
  · exact memRead_frame h1
  · rw [memRead_frame h3, memRead_frame h1]
  · rw [memRead_frame h4, memRead_frame h3, memRead_frame h1]

/-- A step that completes is interrupt entry or the execution of the fetched instruction. -/
theorem step_cases {s t : State} (h : step s = .next t) :
    (interruptTaken s = true ∧ enterInterrupt (nextInput s) = .ok t) ∨
    (interruptTaken s = false ∧ ∃ i s1, fetch (nextInput s) = .ok (i, s1) ∧ exec i s1 = .next t) := by
  unfold step at h
  split at h
  · rename_i hi
    exact .inl ⟨hi, outcome_eq_next.1 h⟩
  · rename_i hi
    refine .inr ⟨by simpa using hi, ?_⟩
    split at h
    · rename_i i s1 hf
      exact ⟨i, s1, hf, h⟩
    · cases h

end Sys2Proof.Laws
end

