-- ==== Sys2Proof/Machine/Assembly.lean ====
section
/-! DEFINITION. The assembly text of an instruction, the parts of a source line, labels and numbers (R91 to R95). No step
reads it; programs are bytes (R96; log 43). -/

namespace Sys2Proof.Machine

/-- A hexadecimal digit, 0 to 15 (R95). -/
def hexDigit (n : Nat) : Char := if n < 10 then Char.ofNat (48 + n) else Char.ofNat (55 + n)

/-- A byte as `$hh` without its mark. -/
def hexByte (b : Byte) : List Char := [hexDigit (b.toNat / 16), hexDigit (b.toNat % 16)]

/-- A hexadecimal constant with its `$` mark, most significant byte first (R94, R95). -/
def hexText (bytes : List Byte) : String := "$" ++ String.ofList (bytes.flatMap hexByte)

/-- The 16-bit branch target of an offset at an address (R94, R111). -/
def relTarget (addr : Addr) (rel : Byte) : Addr := addr + 2#16 + rel.signExtend 16

/-- The bit number of a CLR, INV, SET or TST, from its 6502 opcode (R87). -/
def bitNumber (i : Instr) : Nat := i.opcodes.1.toNat / 16 % 8

/-- The operand field of an instruction that stands at an address, as the manual writes it (R94). Of the spellings the manual
has, this writes one: hexadecimal with `$`, a space after a comma, a branch target as an address, a bit as its number
(DESIGN CHOICE; log 43). -/
def operandText (addr : Addr) (i : Instr) : String :=
  let aa := hexText i.operandBytes.reverse
  match i.mode with
  | .imm => "#" ++ aa
  | .abs => aa
  | .absx => aa ++ ", X"
  | .absy => aa ++ ", Y"
  | .zp => aa
  | .zpx => aa ++ ", X"
  | .zpy => aa ++ ", Y"
  | .imp => ""
  | .acc => "A"
  | .indx => "(" ++ aa ++ ", X)"
  | .ind => "(" ++ aa ++ ")"
  | .indy => "(" ++ aa ++ "), Y"
  | .rel =>
    match i.operandBytes with
    | rel :: _ => hexText [(relTarget addr rel).extractLsb' 8 8, (relTarget addr rel).extractLsb' 0 8]
    | [] => ""
  | .zpbit => aa ++ ", " ++ String.singleton (hexDigit (bitNumber i))

/-- The OP-code and operand fields of an instruction that stands at an address (R93, R94). -/
def instrText (addr : Addr) (i : Instr) : String :=
  if i.mode.length = 1 ∧ i.mode ≠ .acc then i.mnemonic else i.mnemonic ++ " " ++ operandText addr i

/-- The four parts of a source line (R91). -/
structure SourceLine where
  label : Option String
  opCode : String
  operand : Option String
  comment : Option String
deriving DecidableEq, Repr

/-- A source line as text: a label with its colon, a space between two fields, a semicolon before the comment (R91 to R93).
R92 also lets a label stand in column 1 without the colon; this text always has it (DESIGN CHOICE; log 43). -/
def SourceLine.text (line : SourceLine) : String :=
  (match line.label with
    | some l => l ++ ": "
    | none => "") ++ line.opCode ++
  (match line.operand with
    | some o => " " ++ o
    | none => "") ++
  (match line.comment with
    | some c => " ;" ++ c
    | none => "")

/-- An ASCII letter. -/
def isLetter (c : Char) : Bool := (65 ≤ c.toNat && c.toNat ≤ 90) || (97 ≤ c.toNat && c.toNat ≤ 122)

/-- An ASCII digit. -/
def isDigit (c : Char) : Bool := 48 ≤ c.toNat && c.toNat ≤ 57

/-- The label rules of R92: 1 to 32 characters, a letter first, no OP-code and no register name, no special symbols. That the
symbols which are not special are the letters, the digits and the underscore is log 43. The spec is silent on case: a name is
forbidden here in capitals only, and in lower or mixed case it is a label (DESIGN CHOICE; log 49). The register names are those
of R20 with its short names; PCH and PCL, the halves of PC, are labels (DESIGN CHOICE; log 49). -/
def validLabel (label : String) : Bool :=
  match label.toList with
  | [] => false
  | c :: rest => isLetter c && decide (rest.length < 32) && rest.all (fun c => isLetter c || isDigit c || c = '_') &&
      !(["A", "X", "Y", "SP", "PC", "P"].contains label) &&
      !(opcodeRows.any (fun r => r.form.sample.mnemonic == label))

/-- The value of a digit character, hexadecimal digits in capitals, as the manual writes them (R95); a small letter is no digit
(DESIGN CHOICE; log 50). -/
def digitValue (c : Char) : Option Nat :=
  if isDigit c then some (c.toNat - 48) else if 65 ≤ c.toNat ∧ c.toNat ≤ 70 then some (c.toNat - 55) else none

/-- Digits in a base, most significant first, added to a value; with no digit the value stands (log 50). -/
def digitsIn (base : Nat) (value : Nat) : List Char → Option Nat
  | [] => some value
  | c :: rest =>
    match digitValue c with
    | some d => if d < base then digitsIn base (base * value + d) rest else none
    | none => none

/-- A number of the operand field (R95): `%` or a final `B` marks binary, `$` or a final `H` hexadecimal, a final `D` or no
mark decimal. DESIGN CHOICE where R95 is silent (log 50): a mark with no digit is 0; a prefix decides over a final letter; a mark is
a capital; a hexadecimal number with the mark `H` needs no leading zero; a number has no largest value. -/
def numberValue (text : String) : Option Nat :=
  match text.toList with
  | [] => none
  | '%' :: digits => digitsIn 2 0 digits
  | '$' :: digits => digitsIn 16 0 digits
  | c :: rest =>
    match (c :: rest).getLast? with
    | some 'H' => digitsIn 16 0 (c :: rest).dropLast
    | some 'B' => digitsIn 2 0 (c :: rest).dropLast
    | some 'D' => digitsIn 10 0 (c :: rest).dropLast
    | _ => digitsIn 10 0 (c :: rest)

end Sys2Proof.Machine
end

