-- ==== Sys2Proof/Tests/Slice0.lean ====
section
/-! SUPPORT. Tests. Expected values come from the spec: opcode bytes from the encodings of opcode_table.json, results from the
vectors V, X and S of 95_test_vectors.md. The witnesses show states and operands that meet the hypotheses of the statements. -/

namespace Sys2Proof.Tests

open Sys2Proof.Machine Sys2Proof.Claims

/-! ## Well-formedness: one ill-formed term for each pattern of availability (R86, R98) -/

theorem test_wellformed_clr_only_65b02 : (Instr.clr3 0x10#8).wellFormed .t65n02 = false := by decide
theorem test_wellformed_ldy_not_on_65r02 : (Instr.ldyImm 0x10#8).wellFormed .t65r02 = false := by decide
theorem test_wellformed_rol_abs_not_on_cpu12 : (Instr.rolAbs 0x1234#16).wellFormed .cpu12 = false := by decide
theorem test_wellformed_bit_not_on_65s02 : (Instr.bitZp 0x10#8).wellFormed .t65s02 = false := by decide
theorem test_wellformed_accepts : (Instr.ldaIndx 0x10#8).wellFormed .t65s02 = true ∧ (Instr.bitZp 0x10#8).wellFormed .cpu12 = true ∧
    (Instr.tya).wellFormed .t65n02 = true ∧ (Instr.set7 0x10#8).wellFormed .t65b02 = true := by decide

/-! ## Decoding: every constructor in both maps, the opcode bits as opcode_table.json prints them (R81, R86) -/

theorem test_decode_adc :
    decode .std [0b01101001#8, 0x3C#8] = .ok (.adcImm 0x3C#8, []) ∧
    decode .sun [0b01010110#8, 0x3C#8] = .ok (.adcImm 0x3C#8, []) ∧
    decode .std [0b01100101#8, 0x3C#8] = .ok (.adcZp 0x3C#8, []) ∧
    decode .sun [0b00010111#8, 0x3C#8] = .ok (.adcZp 0x3C#8, []) ∧
    decode .std [0b01110101#8, 0x3C#8] = .ok (.adcZpx 0x3C#8, []) ∧
    decode .sun [0b00011111#8, 0x3C#8] = .ok (.adcZpx 0x3C#8, []) ∧
    decode .std [0b01101101#8, 0x34#8, 0x12#8] = .ok (.adcAbs 0x1234#16, []) ∧
    decode .sun [0b01010111#8, 0x34#8, 0x12#8] = .ok (.adcAbs 0x1234#16, []) ∧
    decode .std [0b01111101#8, 0x34#8, 0x12#8] = .ok (.adcAbsx 0x1234#16, []) ∧
    decode .sun [0b01011111#8, 0x34#8, 0x12#8] = .ok (.adcAbsx 0x1234#16, []) ∧
    decode .std [0b01111001#8, 0x34#8, 0x12#8] = .ok (.adcAbsy 0x1234#16, []) ∧
    decode .sun [0b01011110#8, 0x34#8, 0x12#8] = .ok (.adcAbsy 0x1234#16, []) ∧
    decode .std [0b01100001#8, 0x3C#8] = .ok (.adcIndx 0x3C#8, []) ∧
    decode .sun [0b00010110#8, 0x3C#8] = .ok (.adcIndx 0x3C#8, []) ∧
    decode .std [0b01110001#8, 0x3C#8] = .ok (.adcIndy 0x3C#8, []) ∧
    decode .sun [0b00011110#8, 0x3C#8] = .ok (.adcIndy 0x3C#8, []) :=
  ⟨rfl, rfl, rfl, rfl, rfl, rfl, rfl, rfl, rfl, rfl, rfl, rfl, rfl, rfl, rfl, rfl⟩

theorem test_decode_and :
    decode .std [0b00101001#8, 0x3C#8] = .ok (.andImm 0x3C#8, []) ∧
    decode .sun [0b01010100#8, 0x3C#8] = .ok (.andImm 0x3C#8, []) ∧
    decode .std [0b00100101#8, 0x3C#8] = .ok (.andZp 0x3C#8, []) ∧
    decode .sun [0b00010101#8, 0x3C#8] = .ok (.andZp 0x3C#8, []) ∧
    decode .std [0b00110101#8, 0x3C#8] = .ok (.andZpx 0x3C#8, []) ∧
    decode .sun [0b00011101#8, 0x3C#8] = .ok (.andZpx 0x3C#8, []) ∧
    decode .std [0b00101101#8, 0x34#8, 0x12#8] = .ok (.andAbs 0x1234#16, []) ∧
    decode .sun [0b01010101#8, 0x34#8, 0x12#8] = .ok (.andAbs 0x1234#16, []) ∧
    decode .std [0b00111101#8, 0x34#8, 0x12#8] = .ok (.andAbsx 0x1234#16, []) ∧
    decode .sun [0b01011101#8, 0x34#8, 0x12#8] = .ok (.andAbsx 0x1234#16, []) ∧
    decode .std [0b00111001#8, 0x34#8, 0x12#8] = .ok (.andAbsy 0x1234#16, []) ∧
    decode .sun [0b01011100#8, 0x34#8, 0x12#8] = .ok (.andAbsy 0x1234#16, []) ∧
    decode .std [0b00100001#8, 0x3C#8] = .ok (.andIndx 0x3C#8, []) ∧
    decode .sun [0b00010100#8, 0x3C#8] = .ok (.andIndx 0x3C#8, []) ∧
    decode .std [0b00110001#8, 0x3C#8] = .ok (.andIndy 0x3C#8, []) ∧
    decode .sun [0b00011100#8, 0x3C#8] = .ok (.andIndy 0x3C#8, []) :=
  ⟨rfl, rfl, rfl, rfl, rfl, rfl, rfl, rfl, rfl, rfl, rfl, rfl, rfl, rfl, rfl, rfl⟩

theorem test_decode_asl :
    decode .std [0b00001010#8] = .ok (.aslAcc, []) ∧
    decode .sun [0b11000000#8] = .ok (.aslAcc, []) ∧
    decode .std [0b00000110#8, 0x3C#8] = .ok (.aslZp 0x3C#8, []) ∧
    decode .sun [0b10000001#8, 0x3C#8] = .ok (.aslZp 0x3C#8, []) ∧
    decode .std [0b00010110#8, 0x3C#8] = .ok (.aslZpx 0x3C#8, []) ∧
    decode .sun [0b10001001#8, 0x3C#8] = .ok (.aslZpx 0x3C#8, []) ∧
    decode .std [0b00001110#8, 0x34#8, 0x12#8] = .ok (.aslAbs 0x1234#16, []) ∧
    decode .sun [0b11000001#8, 0x34#8, 0x12#8] = .ok (.aslAbs 0x1234#16, []) ∧
    decode .std [0b00011110#8, 0x34#8, 0x12#8] = .ok (.aslAbsx 0x1234#16, []) ∧
    decode .sun [0b11001001#8, 0x34#8, 0x12#8] = .ok (.aslAbsx 0x1234#16, []) :=
  ⟨rfl, rfl, rfl, rfl, rfl, rfl, rfl, rfl, rfl, rfl⟩

theorem test_decode_bcc :
    decode .std [0b10010000#8, 0x3C#8] = .ok (.bcc 0x3C#8, []) ∧
    decode .sun [0b00101000#8, 0x3C#8] = .ok (.bcc 0x3C#8, []) :=
  ⟨rfl, rfl⟩

theorem test_decode_bcs :
    decode .std [0b10110000#8, 0x3C#8] = .ok (.bcs 0x3C#8, []) ∧
    decode .sun [0b00111000#8, 0x3C#8] = .ok (.bcs 0x3C#8, []) :=
  ⟨rfl, rfl⟩

theorem test_decode_beq :
    decode .std [0b11110000#8, 0x3C#8] = .ok (.beq 0x3C#8, []) ∧
    decode .sun [0b00111010#8, 0x3C#8] = .ok (.beq 0x3C#8, []) :=
  ⟨rfl, rfl⟩

theorem test_decode_bmi :
    decode .std [0b00110000#8, 0x3C#8] = .ok (.bmi 0x3C#8, []) ∧
    decode .sun [0b00011000#8, 0x3C#8] = .ok (.bmi 0x3C#8, []) :=
  ⟨rfl, rfl⟩

theorem test_decode_bne :
    decode .std [0b11010000#8, 0x3C#8] = .ok (.bne 0x3C#8, []) ∧
    decode .sun [0b00101010#8, 0x3C#8] = .ok (.bne 0x3C#8, []) :=
  ⟨rfl, rfl⟩

theorem test_decode_bpl :
    decode .std [0b00010000#8, 0x3C#8] = .ok (.bpl 0x3C#8, []) ∧
    decode .sun [0b00001000#8, 0x3C#8] = .ok (.bpl 0x3C#8, []) :=
  ⟨rfl, rfl⟩

theorem test_decode_bvc :
    decode .std [0b01010000#8, 0x3C#8] = .ok (.bvc 0x3C#8, []) ∧
    decode .sun [0b00001010#8, 0x3C#8] = .ok (.bvc 0x3C#8, []) :=
  ⟨rfl, rfl⟩

theorem test_decode_bvs :
    decode .std [0b01110000#8, 0x3C#8] = .ok (.bvs 0x3C#8, []) ∧
    decode .sun [0b00011010#8, 0x3C#8] = .ok (.bvs 0x3C#8, []) :=
  ⟨rfl, rfl⟩

theorem test_decode_bit :
    decode .std [0b00100100#8, 0x3C#8] = .ok (.bitZp 0x3C#8, []) ∧
    decode .sun [0b00010001#8, 0x3C#8] = .ok (.bitZp 0x3C#8, []) ∧
    decode .std [0b00101100#8, 0x34#8, 0x12#8] = .ok (.bitAbs 0x1234#16, []) ∧
    decode .sun [0b01010001#8, 0x34#8, 0x12#8] = .ok (.bitAbs 0x1234#16, []) :=
  ⟨rfl, rfl, rfl, rfl⟩

theorem test_decode_clc :
    decode .std [0b00011000#8] = .ok (.clc, []) ∧
    decode .sun [0b01001000#8] = .ok (.clc, []) :=
  ⟨rfl, rfl⟩

theorem test_decode_cld :
    decode .std [0b11011000#8] = .ok (.cld, []) ∧
    decode .sun [0b01101010#8] = .ok (.cld, []) :=
  ⟨rfl, rfl⟩

theorem test_decode_cli :
    decode .std [0b01011000#8] = .ok (.cli, []) ∧
    decode .sun [0b01001010#8] = .ok (.cli, []) :=
  ⟨rfl, rfl⟩

theorem test_decode_clr :
    decode .std [0b00001111#8, 0x3C#8] = .ok (.clr0 0x3C#8, []) ∧
    decode .sun [0b11000101#8, 0x3C#8] = .ok (.clr0 0x3C#8, []) ∧
    decode .std [0b00011111#8, 0x3C#8] = .ok (.clr1 0x3C#8, []) ∧
    decode .sun [0b11001101#8, 0x3C#8] = .ok (.clr1 0x3C#8, []) ∧
    decode .std [0b00101111#8, 0x3C#8] = .ok (.clr2 0x3C#8, []) ∧
    decode .sun [0b11010101#8, 0x3C#8] = .ok (.clr2 0x3C#8, []) ∧
    decode .std [0b00111111#8, 0x3C#8] = .ok (.clr3 0x3C#8, []) ∧
    decode .sun [0b11011101#8, 0x3C#8] = .ok (.clr3 0x3C#8, []) ∧
    decode .std [0b01001111#8, 0x3C#8] = .ok (.clr4 0x3C#8, []) ∧
    decode .sun [0b11000111#8, 0x3C#8] = .ok (.clr4 0x3C#8, []) ∧
    decode .std [0b01011111#8, 0x3C#8] = .ok (.clr5 0x3C#8, []) ∧
    decode .sun [0b11001111#8, 0x3C#8] = .ok (.clr5 0x3C#8, []) ∧
    decode .std [0b01101111#8, 0x3C#8] = .ok (.clr6 0x3C#8, []) ∧
    decode .sun [0b11010111#8, 0x3C#8] = .ok (.clr6 0x3C#8, []) ∧
    decode .std [0b01111111#8, 0x3C#8] = .ok (.clr7 0x3C#8, []) ∧
    decode .sun [0b11011111#8, 0x3C#8] = .ok (.clr7 0x3C#8, []) :=
  ⟨rfl, rfl, rfl, rfl, rfl, rfl, rfl, rfl, rfl, rfl, rfl, rfl, rfl, rfl, rfl, rfl⟩

theorem test_decode_clv :
    decode .std [0b10111000#8] = .ok (.clv, []) ∧
    decode .sun [0b01111000#8] = .ok (.clv, []) :=
  ⟨rfl, rfl⟩

theorem test_decode_cmp :
    decode .std [0b11001001#8, 0x3C#8] = .ok (.cmpImm 0x3C#8, []) ∧
    decode .sun [0b01100110#8, 0x3C#8] = .ok (.cmpImm 0x3C#8, []) ∧
    decode .std [0b11000101#8, 0x3C#8] = .ok (.cmpZp 0x3C#8, []) ∧
    decode .sun [0b00100111#8, 0x3C#8] = .ok (.cmpZp 0x3C#8, []) ∧
    decode .std [0b11010101#8, 0x3C#8] = .ok (.cmpZpx 0x3C#8, []) ∧
    decode .sun [0b00101111#8, 0x3C#8] = .ok (.cmpZpx 0x3C#8, []) ∧
    decode .std [0b11001101#8, 0x34#8, 0x12#8] = .ok (.cmpAbs 0x1234#16, []) ∧
    decode .sun [0b01100111#8, 0x34#8, 0x12#8] = .ok (.cmpAbs 0x1234#16, []) ∧
    decode .std [0b11011101#8, 0x34#8, 0x12#8] = .ok (.cmpAbsx 0x1234#16, []) ∧
    decode .sun [0b01101111#8, 0x34#8, 0x12#8] = .ok (.cmpAbsx 0x1234#16, []) ∧
    decode .std [0b11011001#8, 0x34#8, 0x12#8] = .ok (.cmpAbsy 0x1234#16, []) ∧
    decode .sun [0b01101110#8, 0x34#8, 0x12#8] = .ok (.cmpAbsy 0x1234#16, []) ∧
    decode .std [0b11000001#8, 0x3C#8] = .ok (.cmpIndx 0x3C#8, []) ∧
    decode .sun [0b00100110#8, 0x3C#8] = .ok (.cmpIndx 0x3C#8, []) ∧
    decode .std [0b11010001#8, 0x3C#8] = .ok (.cmpIndy 0x3C#8, []) ∧
    decode .sun [0b00101110#8, 0x3C#8] = .ok (.cmpIndy 0x3C#8, []) :=
  ⟨rfl, rfl, rfl, rfl, rfl, rfl, rfl, rfl, rfl, rfl, rfl, rfl, rfl, rfl, rfl, rfl⟩

theorem test_decode_cpx :
    decode .std [0b11100000#8, 0x3C#8] = .ok (.cpxImm 0x3C#8, []) ∧
    decode .sun [0b00110010#8, 0x3C#8] = .ok (.cpxImm 0x3C#8, []) ∧
    decode .std [0b11100100#8, 0x3C#8] = .ok (.cpxZp 0x3C#8, []) ∧
    decode .sun [0b00110011#8, 0x3C#8] = .ok (.cpxZp 0x3C#8, []) ∧
    decode .std [0b11101100#8, 0x34#8, 0x12#8] = .ok (.cpxAbs 0x1234#16, []) ∧
    decode .sun [0b01110011#8, 0x34#8, 0x12#8] = .ok (.cpxAbs 0x1234#16, []) :=
  ⟨rfl, rfl, rfl, rfl, rfl, rfl⟩

theorem test_decode_cpy :
    decode .std [0b11000000#8, 0x3C#8] = .ok (.cpyImm 0x3C#8, []) ∧
    decode .sun [0b00100010#8, 0x3C#8] = .ok (.cpyImm 0x3C#8, []) ∧
    decode .std [0b11000100#8, 0x3C#8] = .ok (.cpyZp 0x3C#8, []) ∧
    decode .sun [0b00100011#8, 0x3C#8] = .ok (.cpyZp 0x3C#8, []) ∧
    decode .std [0b11001100#8, 0x34#8, 0x12#8] = .ok (.cpyAbs 0x1234#16, []) ∧
    decode .sun [0b01100011#8, 0x34#8, 0x12#8] = .ok (.cpyAbs 0x1234#16, []) :=
  ⟨rfl, rfl, rfl, rfl, rfl, rfl⟩

theorem test_decode_dec :
    decode .std [0b11000110#8, 0x3C#8] = .ok (.decZp 0x3C#8, []) ∧
    decode .sun [0b10100011#8, 0x3C#8] = .ok (.decZp 0x3C#8, []) ∧
    decode .std [0b11010110#8, 0x3C#8] = .ok (.decZpx 0x3C#8, []) ∧
    decode .sun [0b10101011#8, 0x3C#8] = .ok (.decZpx 0x3C#8, []) ∧
    decode .std [0b11001110#8, 0x34#8, 0x12#8] = .ok (.decAbs 0x1234#16, []) ∧
    decode .sun [0b11100011#8, 0x34#8, 0x12#8] = .ok (.decAbs 0x1234#16, []) ∧
    decode .std [0b11011110#8, 0x34#8, 0x12#8] = .ok (.decAbsx 0x1234#16, []) ∧
    decode .sun [0b11101011#8, 0x34#8, 0x12#8] = .ok (.decAbsx 0x1234#16, []) :=
  ⟨rfl, rfl, rfl, rfl, rfl, rfl, rfl, rfl⟩

theorem test_decode_dex :
    decode .std [0b11001010#8] = .ok (.dex, []) ∧
    decode .sun [0b11100010#8] = .ok (.dex, []) :=
  ⟨rfl, rfl⟩

theorem test_decode_dey :
    decode .std [0b10001000#8] = .ok (.dey, []) ∧
    decode .sun [0b01100000#8] = .ok (.dey, []) :=
  ⟨rfl, rfl⟩

theorem test_decode_eor :
    decode .std [0b01001001#8, 0x3C#8] = .ok (.eorImm 0x3C#8, []) ∧
    decode .sun [0b01000110#8, 0x3C#8] = .ok (.eorImm 0x3C#8, []) ∧
    decode .std [0b01000101#8, 0x3C#8] = .ok (.eorZp 0x3C#8, []) ∧
    decode .sun [0b00000111#8, 0x3C#8] = .ok (.eorZp 0x3C#8, []) ∧
    decode .std [0b01010101#8, 0x3C#8] = .ok (.eorZpx 0x3C#8, []) ∧
    decode .sun [0b00001111#8, 0x3C#8] = .ok (.eorZpx 0x3C#8, []) ∧
    decode .std [0b01001101#8, 0x34#8, 0x12#8] = .ok (.eorAbs 0x1234#16, []) ∧
    decode .sun [0b01000111#8, 0x34#8, 0x12#8] = .ok (.eorAbs 0x1234#16, []) ∧
    decode .std [0b01011101#8, 0x34#8, 0x12#8] = .ok (.eorAbsx 0x1234#16, []) ∧
    decode .sun [0b01001111#8, 0x34#8, 0x12#8] = .ok (.eorAbsx 0x1234#16, []) ∧
    decode .std [0b01011001#8, 0x34#8, 0x12#8] = .ok (.eorAbsy 0x1234#16, []) ∧
    decode .sun [0b01001110#8, 0x34#8, 0x12#8] = .ok (.eorAbsy 0x1234#16, []) ∧
    decode .std [0b01000001#8, 0x3C#8] = .ok (.eorIndx 0x3C#8, []) ∧
    decode .sun [0b00000110#8, 0x3C#8] = .ok (.eorIndx 0x3C#8, []) ∧
    decode .std [0b01010001#8, 0x3C#8] = .ok (.eorIndy 0x3C#8, []) ∧
    decode .sun [0b00001110#8, 0x3C#8] = .ok (.eorIndy 0x3C#8, []) :=
  ⟨rfl, rfl, rfl, rfl, rfl, rfl, rfl, rfl, rfl, rfl, rfl, rfl, rfl, rfl, rfl, rfl⟩

theorem test_decode_inc :
    decode .std [0b11100110#8, 0x3C#8] = .ok (.incZp 0x3C#8, []) ∧
    decode .sun [0b10110011#8, 0x3C#8] = .ok (.incZp 0x3C#8, []) ∧
    decode .std [0b11110110#8, 0x3C#8] = .ok (.incZpx 0x3C#8, []) ∧
    decode .sun [0b10111011#8, 0x3C#8] = .ok (.incZpx 0x3C#8, []) ∧
    decode .std [0b11101110#8, 0x34#8, 0x12#8] = .ok (.incAbs 0x1234#16, []) ∧
    decode .sun [0b11110011#8, 0x34#8, 0x12#8] = .ok (.incAbs 0x1234#16, []) ∧
    decode .std [0b11111110#8, 0x34#8, 0x12#8] = .ok (.incAbsx 0x1234#16, []) ∧
    decode .sun [0b11111011#8, 0x34#8, 0x12#8] = .ok (.incAbsx 0x1234#16, []) :=
  ⟨rfl, rfl, rfl, rfl, rfl, rfl, rfl, rfl⟩

theorem test_decode_inv :
    decode .std [0b10000111#8, 0x3C#8] = .ok (.inv0 0x3C#8, []) ∧
    decode .sun [0b10100101#8, 0x3C#8] = .ok (.inv0 0x3C#8, []) ∧
    decode .std [0b10010111#8, 0x3C#8] = .ok (.inv1 0x3C#8, []) ∧
    decode .sun [0b10101101#8, 0x3C#8] = .ok (.inv1 0x3C#8, []) ∧
    decode .std [0b10100111#8, 0x3C#8] = .ok (.inv2 0x3C#8, []) ∧
    decode .sun [0b10110101#8, 0x3C#8] = .ok (.inv2 0x3C#8, []) ∧
    decode .std [0b10110111#8, 0x3C#8] = .ok (.inv3 0x3C#8, []) ∧
    decode .sun [0b10111101#8, 0x3C#8] = .ok (.inv3 0x3C#8, []) ∧
    decode .std [0b11000111#8, 0x3C#8] = .ok (.inv4 0x3C#8, []) ∧
    decode .sun [0b10100111#8, 0x3C#8] = .ok (.inv4 0x3C#8, []) ∧
    decode .std [0b11010111#8, 0x3C#8] = .ok (.inv5 0x3C#8, []) ∧
    decode .sun [0b10101111#8, 0x3C#8] = .ok (.inv5 0x3C#8, []) ∧
    decode .std [0b11100111#8, 0x3C#8] = .ok (.inv6 0x3C#8, []) ∧
    decode .sun [0b10110111#8, 0x3C#8] = .ok (.inv6 0x3C#8, []) ∧
    decode .std [0b11110111#8, 0x3C#8] = .ok (.inv7 0x3C#8, []) ∧
    decode .sun [0b10111111#8, 0x3C#8] = .ok (.inv7 0x3C#8, []) :=
  ⟨rfl, rfl, rfl, rfl, rfl, rfl, rfl, rfl, rfl, rfl, rfl, rfl, rfl, rfl, rfl, rfl⟩

theorem test_decode_inx :
    decode .std [0b11101000#8] = .ok (.inx, []) ∧
    decode .sun [0b01110010#8] = .ok (.inx, []) :=
  ⟨rfl, rfl⟩

theorem test_decode_iny :
    decode .std [0b11001000#8] = .ok (.iny, []) ∧
    decode .sun [0b01100010#8] = .ok (.iny, []) :=
  ⟨rfl, rfl⟩

theorem test_decode_jmp :
    decode .std [0b01001100#8, 0x34#8, 0x12#8] = .ok (.jmpAbs 0x1234#16, []) ∧
    decode .sun [0b01000011#8, 0x34#8, 0x12#8] = .ok (.jmpAbs 0x1234#16, []) ∧
    decode .std [0b01101100#8, 0x34#8, 0x12#8] = .ok (.jmpInd 0x1234#16, []) ∧
    decode .sun [0b01010011#8, 0x34#8, 0x12#8] = .ok (.jmpInd 0x1234#16, []) :=
  ⟨rfl, rfl, rfl, rfl⟩

theorem test_decode_jsr :
    decode .std [0b00100000#8, 0x34#8, 0x12#8] = .ok (.jsr 0x1234#16, []) ∧
    decode .sun [0b00010000#8, 0x34#8, 0x12#8] = .ok (.jsr 0x1234#16, []) :=
  ⟨rfl, rfl⟩

theorem test_decode_lda :
    decode .std [0b10101001#8, 0x3C#8] = .ok (.ldaImm 0x3C#8, []) ∧
    decode .sun [0b01110100#8, 0x3C#8] = .ok (.ldaImm 0x3C#8, []) ∧
    decode .std [0b10100101#8, 0x3C#8] = .ok (.ldaZp 0x3C#8, []) ∧
    decode .sun [0b00110101#8, 0x3C#8] = .ok (.ldaZp 0x3C#8, []) ∧
    decode .std [0b10110101#8, 0x3C#8] = .ok (.ldaZpx 0x3C#8, []) ∧
    decode .sun [0b00111101#8, 0x3C#8] = .ok (.ldaZpx 0x3C#8, []) ∧
    decode .std [0b10101101#8, 0x34#8, 0x12#8] = .ok (.ldaAbs 0x1234#16, []) ∧
    decode .sun [0b01110101#8, 0x34#8, 0x12#8] = .ok (.ldaAbs 0x1234#16, []) ∧
    decode .std [0b10111101#8, 0x34#8, 0x12#8] = .ok (.ldaAbsx 0x1234#16, []) ∧
    decode .sun [0b01111101#8, 0x34#8, 0x12#8] = .ok (.ldaAbsx 0x1234#16, []) ∧
    decode .std [0b10111001#8, 0x34#8, 0x12#8] = .ok (.ldaAbsy 0x1234#16, []) ∧
    decode .sun [0b01111100#8, 0x34#8, 0x12#8] = .ok (.ldaAbsy 0x1234#16, []) ∧
    decode .std [0b10100001#8, 0x3C#8] = .ok (.ldaIndx 0x3C#8, []) ∧
    decode .sun [0b00110100#8, 0x3C#8] = .ok (.ldaIndx 0x3C#8, []) ∧
    decode .std [0b10110001#8, 0x3C#8] = .ok (.ldaIndy 0x3C#8, []) ∧
    decode .sun [0b00111100#8, 0x3C#8] = .ok (.ldaIndy 0x3C#8, []) :=
  ⟨rfl, rfl, rfl, rfl, rfl, rfl, rfl, rfl, rfl, rfl, rfl, rfl, rfl, rfl, rfl, rfl⟩

theorem test_decode_ldx :
    decode .std [0b10100010#8, 0x3C#8] = .ok (.ldxImm 0x3C#8, []) ∧
    decode .sun [0b10110000#8, 0x3C#8] = .ok (.ldxImm 0x3C#8, []) ∧
    decode .std [0b10100110#8, 0x3C#8] = .ok (.ldxZp 0x3C#8, []) ∧
    decode .sun [0b10110001#8, 0x3C#8] = .ok (.ldxZp 0x3C#8, []) ∧
    decode .std [0b10110110#8, 0x3C#8] = .ok (.ldxZpy 0x3C#8, []) ∧
    decode .sun [0b10111001#8, 0x3C#8] = .ok (.ldxZpy 0x3C#8, []) ∧
    decode .std [0b10101110#8, 0x34#8, 0x12#8] = .ok (.ldxAbs 0x1234#16, []) ∧
    decode .sun [0b11110001#8, 0x34#8, 0x12#8] = .ok (.ldxAbs 0x1234#16, []) ∧
    decode .std [0b10111110#8, 0x34#8, 0x12#8] = .ok (.ldxAbsy 0x1234#16, []) ∧
    decode .sun [0b11111001#8, 0x34#8, 0x12#8] = .ok (.ldxAbsy 0x1234#16, []) :=
  ⟨rfl, rfl, rfl, rfl, rfl, rfl, rfl, rfl, rfl, rfl⟩

theorem test_decode_ldy :
    decode .std [0b10100000#8, 0x3C#8] = .ok (.ldyImm 0x3C#8, []) ∧
    decode .sun [0b00110000#8, 0x3C#8] = .ok (.ldyImm 0x3C#8, []) ∧
    decode .std [0b10100100#8, 0x3C#8] = .ok (.ldyZp 0x3C#8, []) ∧
    decode .sun [0b00110001#8, 0x3C#8] = .ok (.ldyZp 0x3C#8, []) ∧
    decode .std [0b10110100#8, 0x3C#8] = .ok (.ldyZpx 0x3C#8, []) ∧
    decode .sun [0b00111001#8, 0x3C#8] = .ok (.ldyZpx 0x3C#8, []) ∧
    decode .std [0b10101100#8, 0x34#8, 0x12#8] = .ok (.ldyAbs 0x1234#16, []) ∧
    decode .sun [0b01110001#8, 0x34#8, 0x12#8] = .ok (.ldyAbs 0x1234#16, []) ∧
    decode .std [0b10111100#8, 0x34#8, 0x12#8] = .ok (.ldyAbsx 0x1234#16, []) ∧
    decode .sun [0b01111001#8, 0x34#8, 0x12#8] = .ok (.ldyAbsx 0x1234#16, []) :=
  ⟨rfl, rfl, rfl, rfl, rfl, rfl, rfl, rfl, rfl, rfl⟩

theorem test_decode_lsr :
    decode .std [0b01001010#8] = .ok (.lsrAcc, []) ∧
    decode .sun [0b11000010#8] = .ok (.lsrAcc, []) ∧
    decode .std [0b01000110#8, 0x3C#8] = .ok (.lsrZp 0x3C#8, []) ∧
    decode .sun [0b10000011#8, 0x3C#8] = .ok (.lsrZp 0x3C#8, []) ∧
    decode .std [0b01010110#8, 0x3C#8] = .ok (.lsrZpx 0x3C#8, []) ∧
    decode .sun [0b10001011#8, 0x3C#8] = .ok (.lsrZpx 0x3C#8, []) ∧
    decode .std [0b01001110#8, 0x34#8, 0x12#8] = .ok (.lsrAbs 0x1234#16, []) ∧
    decode .sun [0b11000011#8, 0x34#8, 0x12#8] = .ok (.lsrAbs 0x1234#16, []) ∧
    decode .std [0b01011110#8, 0x34#8, 0x12#8] = .ok (.lsrAbsx 0x1234#16, []) ∧
    decode .sun [0b11001011#8, 0x34#8, 0x12#8] = .ok (.lsrAbsx 0x1234#16, []) :=
  ⟨rfl, rfl, rfl, rfl, rfl, rfl, rfl, rfl, rfl, rfl⟩

theorem test_decode_nop :
    decode .std [0b11101010#8] = .ok (.nop, []) ∧
    decode .sun [0b11110010#8] = .ok (.nop, []) :=
  ⟨rfl, rfl⟩

theorem test_decode_ora :
    decode .std [0b00001001#8, 0x3C#8] = .ok (.oraImm 0x3C#8, []) ∧
    decode .sun [0b01000100#8, 0x3C#8] = .ok (.oraImm 0x3C#8, []) ∧
    decode .std [0b00000101#8, 0x3C#8] = .ok (.oraZp 0x3C#8, []) ∧
    decode .sun [0b00000101#8, 0x3C#8] = .ok (.oraZp 0x3C#8, []) ∧
    decode .std [0b00010101#8, 0x3C#8] = .ok (.oraZpx 0x3C#8, []) ∧
    decode .sun [0b00001101#8, 0x3C#8] = .ok (.oraZpx 0x3C#8, []) ∧
    decode .std [0b00001101#8, 0x34#8, 0x12#8] = .ok (.oraAbs 0x1234#16, []) ∧
    decode .sun [0b01000101#8, 0x34#8, 0x12#8] = .ok (.oraAbs 0x1234#16, []) ∧
    decode .std [0b00011101#8, 0x34#8, 0x12#8] = .ok (.oraAbsx 0x1234#16, []) ∧
    decode .sun [0b01001101#8, 0x34#8, 0x12#8] = .ok (.oraAbsx 0x1234#16, []) ∧
    decode .std [0b00011001#8, 0x34#8, 0x12#8] = .ok (.oraAbsy 0x1234#16, []) ∧
    decode .sun [0b01001100#8, 0x34#8, 0x12#8] = .ok (.oraAbsy 0x1234#16, []) ∧
    decode .std [0b00000001#8, 0x3C#8] = .ok (.oraIndx 0x3C#8, []) ∧
    decode .sun [0b00000100#8, 0x3C#8] = .ok (.oraIndx 0x3C#8, []) ∧
    decode .std [0b00010001#8, 0x3C#8] = .ok (.oraIndy 0x3C#8, []) ∧
    decode .sun [0b00001100#8, 0x3C#8] = .ok (.oraIndy 0x3C#8, []) :=
  ⟨rfl, rfl, rfl, rfl, rfl, rfl, rfl, rfl, rfl, rfl, rfl, rfl, rfl, rfl, rfl, rfl⟩

theorem test_decode_pha :
    decode .std [0b01001000#8] = .ok (.pha, []) ∧
    decode .sun [0b01000010#8] = .ok (.pha, []) :=
  ⟨rfl, rfl⟩

theorem test_decode_php :
    decode .std [0b00001000#8] = .ok (.php, []) ∧
    decode .sun [0b01000000#8] = .ok (.php, []) :=
  ⟨rfl, rfl⟩

theorem test_decode_pla :
    decode .std [0b01101000#8] = .ok (.pla, []) ∧
    decode .sun [0b01010010#8] = .ok (.pla, []) :=
  ⟨rfl, rfl⟩

theorem test_decode_plp :
    decode .std [0b00101000#8] = .ok (.plp, []) ∧
    decode .sun [0b01010000#8] = .ok (.plp, []) :=
  ⟨rfl, rfl⟩

theorem test_decode_rol :
    decode .std [0b00101010#8] = .ok (.rolAcc, []) ∧
    decode .sun [0b11010000#8] = .ok (.rolAcc, []) ∧
    decode .std [0b00100110#8, 0x3C#8] = .ok (.rolZp 0x3C#8, []) ∧
    decode .sun [0b10010001#8, 0x3C#8] = .ok (.rolZp 0x3C#8, []) ∧
    decode .std [0b00110110#8, 0x3C#8] = .ok (.rolZpx 0x3C#8, []) ∧
    decode .sun [0b10011001#8, 0x3C#8] = .ok (.rolZpx 0x3C#8, []) ∧
    decode .std [0b00101110#8, 0x34#8, 0x12#8] = .ok (.rolAbs 0x1234#16, []) ∧
    decode .sun [0b11010001#8, 0x34#8, 0x12#8] = .ok (.rolAbs 0x1234#16, []) ∧
    decode .std [0b00111110#8, 0x34#8, 0x12#8] = .ok (.rolAbsx 0x1234#16, []) ∧
    decode .sun [0b11011001#8, 0x34#8, 0x12#8] = .ok (.rolAbsx 0x1234#16, []) :=
  ⟨rfl, rfl, rfl, rfl, rfl, rfl, rfl, rfl, rfl, rfl⟩

theorem test_decode_ror :
    decode .std [0b01101010#8] = .ok (.rorAcc, []) ∧
    decode .sun [0b11010010#8] = .ok (.rorAcc, []) ∧
    decode .std [0b01100110#8, 0x3C#8] = .ok (.rorZp 0x3C#8, []) ∧
    decode .sun [0b10010011#8, 0x3C#8] = .ok (.rorZp 0x3C#8, []) ∧
    decode .std [0b01110110#8, 0x3C#8] = .ok (.rorZpx 0x3C#8, []) ∧
    decode .sun [0b10011011#8, 0x3C#8] = .ok (.rorZpx 0x3C#8, []) ∧
    decode .std [0b01101110#8, 0x34#8, 0x12#8] = .ok (.rorAbs 0x1234#16, []) ∧
    decode .sun [0b11010011#8, 0x34#8, 0x12#8] = .ok (.rorAbs 0x1234#16, []) ∧
    decode .std [0b01111110#8, 0x34#8, 0x12#8] = .ok (.rorAbsx 0x1234#16, []) ∧
    decode .sun [0b11011011#8, 0x34#8, 0x12#8] = .ok (.rorAbsx 0x1234#16, []) :=
  ⟨rfl, rfl, rfl, rfl, rfl, rfl, rfl, rfl, rfl, rfl⟩

theorem test_decode_rti :
    decode .std [0b01000000#8] = .ok (.rti, []) ∧
    decode .sun [0b00000010#8] = .ok (.rti, []) :=
  ⟨rfl, rfl⟩

theorem test_decode_rts :
    decode .std [0b01100000#8] = .ok (.rts, []) ∧
    decode .sun [0b00010010#8] = .ok (.rts, []) :=
  ⟨rfl, rfl⟩

theorem test_decode_sbc :
    decode .std [0b11101001#8, 0x3C#8] = .ok (.sbcImm 0x3C#8, []) ∧
    decode .sun [0b01110110#8, 0x3C#8] = .ok (.sbcImm 0x3C#8, []) ∧
    decode .std [0b11100101#8, 0x3C#8] = .ok (.sbcZp 0x3C#8, []) ∧
    decode .sun [0b00110111#8, 0x3C#8] = .ok (.sbcZp 0x3C#8, []) ∧
    decode .std [0b11110101#8, 0x3C#8] = .ok (.sbcZpx 0x3C#8, []) ∧
    decode .sun [0b00111111#8, 0x3C#8] = .ok (.sbcZpx 0x3C#8, []) ∧
    decode .std [0b11101101#8, 0x34#8, 0x12#8] = .ok (.sbcAbs 0x1234#16, []) ∧
    decode .sun [0b01110111#8, 0x34#8, 0x12#8] = .ok (.sbcAbs 0x1234#16, []) ∧
    decode .std [0b11111101#8, 0x34#8, 0x12#8] = .ok (.sbcAbsx 0x1234#16, []) ∧
    decode .sun [0b01111111#8, 0x34#8, 0x12#8] = .ok (.sbcAbsx 0x1234#16, []) ∧
    decode .std [0b11111001#8, 0x34#8, 0x12#8] = .ok (.sbcAbsy 0x1234#16, []) ∧
    decode .sun [0b01111110#8, 0x34#8, 0x12#8] = .ok (.sbcAbsy 0x1234#16, []) ∧
    decode .std [0b11100001#8, 0x3C#8] = .ok (.sbcIndx 0x3C#8, []) ∧
    decode .sun [0b00110110#8, 0x3C#8] = .ok (.sbcIndx 0x3C#8, []) ∧
    decode .std [0b11110001#8, 0x3C#8] = .ok (.sbcIndy 0x3C#8, []) ∧
    decode .sun [0b00111110#8, 0x3C#8] = .ok (.sbcIndy 0x3C#8, []) :=
  ⟨rfl, rfl, rfl, rfl, rfl, rfl, rfl, rfl, rfl, rfl, rfl, rfl, rfl, rfl, rfl, rfl⟩

theorem test_decode_sec :
    decode .std [0b00111000#8] = .ok (.sec, []) ∧
    decode .sun [0b01011000#8] = .ok (.sec, []) :=
  ⟨rfl, rfl⟩

theorem test_decode_sed :
    decode .std [0b11111000#8] = .ok (.sed, []) ∧
    decode .sun [0b01111010#8] = .ok (.sed, []) :=
  ⟨rfl, rfl⟩

theorem test_decode_sei :
    decode .std [0b01111000#8] = .ok (.sei, []) ∧
    decode .sun [0b01011010#8] = .ok (.sei, []) :=
  ⟨rfl, rfl⟩

theorem test_decode_set :
    decode .std [0b10001111#8, 0x3C#8] = .ok (.set0 0x3C#8, []) ∧
    decode .sun [0b11100101#8, 0x3C#8] = .ok (.set0 0x3C#8, []) ∧
    decode .std [0b10011111#8, 0x3C#8] = .ok (.set1 0x3C#8, []) ∧
    decode .sun [0b11101101#8, 0x3C#8] = .ok (.set1 0x3C#8, []) ∧
    decode .std [0b10101111#8, 0x3C#8] = .ok (.set2 0x3C#8, []) ∧
    decode .sun [0b11110101#8, 0x3C#8] = .ok (.set2 0x3C#8, []) ∧
    decode .std [0b10111111#8, 0x3C#8] = .ok (.set3 0x3C#8, []) ∧
    decode .sun [0b11111101#8, 0x3C#8] = .ok (.set3 0x3C#8, []) ∧
    decode .std [0b11001111#8, 0x3C#8] = .ok (.set4 0x3C#8, []) ∧
    decode .sun [0b11100111#8, 0x3C#8] = .ok (.set4 0x3C#8, []) ∧
    decode .std [0b11011111#8, 0x3C#8] = .ok (.set5 0x3C#8, []) ∧
    decode .sun [0b11101111#8, 0x3C#8] = .ok (.set5 0x3C#8, []) ∧
    decode .std [0b11101111#8, 0x3C#8] = .ok (.set6 0x3C#8, []) ∧
    decode .sun [0b11110111#8, 0x3C#8] = .ok (.set6 0x3C#8, []) ∧
    decode .std [0b11111111#8, 0x3C#8] = .ok (.set7 0x3C#8, []) ∧
    decode .sun [0b11111111#8, 0x3C#8] = .ok (.set7 0x3C#8, []) :=
  ⟨rfl, rfl, rfl, rfl, rfl, rfl, rfl, rfl, rfl, rfl, rfl, rfl, rfl, rfl, rfl, rfl⟩

theorem test_decode_sta :
    decode .std [0b10000101#8, 0x3C#8] = .ok (.staZp 0x3C#8, []) ∧
    decode .sun [0b00100101#8, 0x3C#8] = .ok (.staZp 0x3C#8, []) ∧
    decode .std [0b10010101#8, 0x3C#8] = .ok (.staZpx 0x3C#8, []) ∧
    decode .sun [0b00101101#8, 0x3C#8] = .ok (.staZpx 0x3C#8, []) ∧
    decode .std [0b10001101#8, 0x34#8, 0x12#8] = .ok (.staAbs 0x1234#16, []) ∧
    decode .sun [0b01100101#8, 0x34#8, 0x12#8] = .ok (.staAbs 0x1234#16, []) ∧
    decode .std [0b10011101#8, 0x34#8, 0x12#8] = .ok (.staAbsx 0x1234#16, []) ∧
    decode .sun [0b01101101#8, 0x34#8, 0x12#8] = .ok (.staAbsx 0x1234#16, []) ∧
    decode .std [0b10011001#8, 0x34#8, 0x12#8] = .ok (.staAbsy 0x1234#16, []) ∧
    decode .sun [0b01101100#8, 0x34#8, 0x12#8] = .ok (.staAbsy 0x1234#16, []) ∧
    decode .std [0b10000001#8, 0x3C#8] = .ok (.staIndx 0x3C#8, []) ∧
    decode .sun [0b00100100#8, 0x3C#8] = .ok (.staIndx 0x3C#8, []) ∧
    decode .std [0b10010001#8, 0x3C#8] = .ok (.staIndy 0x3C#8, []) ∧
    decode .sun [0b00101100#8, 0x3C#8] = .ok (.staIndy 0x3C#8, []) :=
  ⟨rfl, rfl, rfl, rfl, rfl, rfl, rfl, rfl, rfl, rfl, rfl, rfl, rfl, rfl⟩

theorem test_decode_stx :
    decode .std [0b10000110#8, 0x3C#8] = .ok (.stxZp 0x3C#8, []) ∧
    decode .sun [0b10100001#8, 0x3C#8] = .ok (.stxZp 0x3C#8, []) ∧
    decode .std [0b10010110#8, 0x3C#8] = .ok (.stxZpy 0x3C#8, []) ∧
    decode .sun [0b10101001#8, 0x3C#8] = .ok (.stxZpy 0x3C#8, []) ∧
    decode .std [0b10001110#8, 0x34#8, 0x12#8] = .ok (.stxAbs 0x1234#16, []) ∧
    decode .sun [0b11100001#8, 0x34#8, 0x12#8] = .ok (.stxAbs 0x1234#16, []) :=
  ⟨rfl, rfl, rfl, rfl, rfl, rfl⟩

theorem test_decode_sty :
    decode .std [0b10000100#8, 0x3C#8] = .ok (.styZp 0x3C#8, []) ∧
    decode .sun [0b00100001#8, 0x3C#8] = .ok (.styZp 0x3C#8, []) ∧
    decode .std [0b10010100#8, 0x3C#8] = .ok (.styZpx 0x3C#8, []) ∧
    decode .sun [0b00101001#8, 0x3C#8] = .ok (.styZpx 0x3C#8, []) ∧
    decode .std [0b10001100#8, 0x34#8, 0x12#8] = .ok (.styAbs 0x1234#16, []) ∧
    decode .sun [0b01100001#8, 0x34#8, 0x12#8] = .ok (.styAbs 0x1234#16, []) :=
  ⟨rfl, rfl, rfl, rfl, rfl, rfl⟩

theorem test_decode_tax :
    decode .std [0b10101010#8] = .ok (.tax, []) ∧
    decode .sun [0b11110000#8] = .ok (.tax, []) :=
  ⟨rfl, rfl⟩

theorem test_decode_tay :
    decode .std [0b10101000#8] = .ok (.tay, []) ∧
    decode .sun [0b01110000#8] = .ok (.tay, []) :=
  ⟨rfl, rfl⟩

theorem test_decode_tst :
    decode .std [0b00000111#8, 0x3C#8] = .ok (.tst0 0x3C#8, []) ∧
    decode .sun [0b10000101#8, 0x3C#8] = .ok (.tst0 0x3C#8, []) ∧
    decode .std [0b00010111#8, 0x3C#8] = .ok (.tst1 0x3C#8, []) ∧
    decode .sun [0b10001101#8, 0x3C#8] = .ok (.tst1 0x3C#8, []) ∧
    decode .std [0b00100111#8, 0x3C#8] = .ok (.tst2 0x3C#8, []) ∧
    decode .sun [0b10010101#8, 0x3C#8] = .ok (.tst2 0x3C#8, []) ∧
    decode .std [0b00110111#8, 0x3C#8] = .ok (.tst3 0x3C#8, []) ∧
    decode .sun [0b10011101#8, 0x3C#8] = .ok (.tst3 0x3C#8, []) ∧
    decode .std [0b01000111#8, 0x3C#8] = .ok (.tst4 0x3C#8, []) ∧
    decode .sun [0b10000111#8, 0x3C#8] = .ok (.tst4 0x3C#8, []) ∧
    decode .std [0b01010111#8, 0x3C#8] = .ok (.tst5 0x3C#8, []) ∧
    decode .sun [0b10001111#8, 0x3C#8] = .ok (.tst5 0x3C#8, []) ∧
    decode .std [0b01100111#8, 0x3C#8] = .ok (.tst6 0x3C#8, []) ∧
    decode .sun [0b10010111#8, 0x3C#8] = .ok (.tst6 0x3C#8, []) ∧
    decode .std [0b01110111#8, 0x3C#8] = .ok (.tst7 0x3C#8, []) ∧
    decode .sun [0b10011111#8, 0x3C#8] = .ok (.tst7 0x3C#8, []) :=
  ⟨rfl, rfl, rfl, rfl, rfl, rfl, rfl, rfl, rfl, rfl, rfl, rfl, rfl, rfl, rfl, rfl⟩

theorem test_decode_tsx :
    decode .std [0b10111010#8] = .ok (.tsx, []) ∧
    decode .sun [0b11111000#8] = .ok (.tsx, []) :=
  ⟨rfl, rfl⟩

theorem test_decode_txa :
    decode .std [0b10001010#8] = .ok (.txa, []) ∧
    decode .sun [0b11100000#8] = .ok (.txa, []) :=
  ⟨rfl, rfl⟩

theorem test_decode_txs :
    decode .std [0b10011010#8] = .ok (.txs, []) ∧
    decode .sun [0b11101000#8] = .ok (.txs, []) :=
  ⟨rfl, rfl⟩

theorem test_decode_tya :
    decode .std [0b10011000#8] = .ok (.tya, []) ∧
    decode .sun [0b01101000#8] = .ok (.tya, []) :=
  ⟨rfl, rfl⟩

theorem test_decode_table_word : decodeTableWord 16 0x3469 = some (.adcImm 0x34#8) ∧ decodeTableWord 8 0x6D = some (.adcAbs 0#16) ∧
    decodeTableWord 8 0x02 = none := ⟨rfl, rfl, rfl⟩

/-! ## Instructions: vectors of 95_test_vectors.md, one step each -/

/-- A machine with a CPU type and an opcode map, and these cells of memory. -/
def machine (cpu : CpuType) (map : OpMap) (pc : Addr) (cells : Memory) : State :=
  State.initial { Chip.default with cpu := cpu, opMap := map } cells pc IrqInput.quiet []

/-- The step completed in a state of which f holds. -/
def passes (o : Out) (f : State → Bool) : Bool :=
  match o with
  | .next t => f t
  | .fault _ => false
  | .refused _ => false

/-- V13: `ADC #$01`. -/
theorem test_adc_V13 : passes (step { machine .cpu12 .std 0x0200#16 [(0x0200, 0x69#8), (0x0201, 0x01#8)] with a := 0x99#8, p := { n := false, v := false, d := true, i := true, z := false, c := false } })
    (fun t => t.pc == 0x0202#16 && t.a == 0x9A#8 && t.p.n == true && t.p.v == false && t.p.z == false && t.p.c == false && t.x == 0x00#8 && t.y == 0x00#8) = true := rfl

/-- V25: `ADC #$46`. -/
theorem test_adc_V25 : passes (step { machine .t65b02 .sun 0x0200#16 [(0x0200, 0x56#8), (0x0201, 0x46#8)] with a := 0x58#8, p := { n := false, v := false, d := true, i := true, z := false, c := true } })
    (fun t => t.pc == 0x0202#16 && t.a == 0x05#8 && t.p.c == true && t.x == 0x00#8 && t.y == 0x00#8 && t.sp == 0x00#8 && t.p.d == true && t.p.i == true) = true := rfl

/-- V19: `SBC #$FF`. -/
theorem test_sbc_V19 : passes (step { machine .t65b02 .std 0x0200#16 [(0x0200, 0xE9#8), (0x0201, 0xFF#8)] with a := 0x7F#8, p := { n := false, v := false, d := false, i := true, z := false, c := true } })
    (fun t => t.pc == 0x0202#16 && t.a == 0x80#8 && t.p.n == true && t.p.v == true && t.p.z == false && t.p.c == false && t.x == 0x00#8 && t.y == 0x00#8) = true := rfl

/-- V28: `SBC #$21`. -/
theorem test_sbc_V28 : passes (step { machine .t65b02 .sun 0x0200#16 [(0x0200, 0x76#8), (0x0201, 0x21#8)] with a := 0x12#8, p := { n := false, v := false, d := true, i := true, z := false, c := true } })
    (fun t => t.pc == 0x0202#16 && t.a == 0x91#8 && t.p.c == false && t.x == 0x00#8 && t.y == 0x00#8 && t.sp == 0x00#8 && t.p.d == true && t.p.i == true) = true := rfl

/-- V39: `AND ($20,X)`. -/
theorem test_and_V39 : passes (step { machine .t65n02 .std 0x0200#16 [(0x0024, 0x00#8), (0x0025, 0x30#8), (0x0200, 0x21#8), (0x0201, 0x20#8), (0x3000, 0x5A#8)] with a := 0xFF#8, x := 0x04#8, p := { n := false, v := false, d := false, i := true, z := false, c := false } })
    (fun t => t.pc == 0x0202#16 && t.a == 0x5A#8 && t.p.n == false && t.p.z == false && t.x == 0x04#8 && t.y == 0x00#8 && t.sp == 0x00#8 && t.p.v == false) = true := rfl

/-- V40: `ORA ($20),Y`. -/
theorem test_ora_V40 : passes (step { machine .t65n02 .sun 0x0200#16 [(0x0020, 0xF8#8), (0x0021, 0x30#8), (0x0200, 0x0C#8), (0x0201, 0x20#8), (0x3108, 0x80#8)] with a := 0x01#8, y := 0x10#8, p := { n := false, v := false, d := false, i := true, z := false, c := false } })
    (fun t => t.pc == 0x0202#16 && t.a == 0x81#8 && t.p.n == true && t.p.z == false && t.x == 0x00#8 && t.y == 0x10#8 && t.sp == 0x00#8 && t.p.v == false) = true := rfl

/-- V41: `EOR $10,X`. -/
theorem test_eor_V41 : passes (step { machine .t65r02 .std 0x0200#16 [(0x0011, 0xAA#8), (0x0200, 0x55#8), (0x0201, 0x10#8)] with a := 0xAA#8, x := 0x01#8, p := { n := false, v := false, d := false, i := true, z := false, c := false } })
    (fun t => t.pc == 0x0202#16 && t.a == 0x00#8 && t.p.n == false && t.p.z == true && t.x == 0x01#8 && t.y == 0x00#8 && t.sp == 0x00#8 && t.p.v == false) = true := rfl

/-- V42: `BIT $10`. -/
theorem test_bit_V42 : passes (step { machine .t65r02 .sun 0x0200#16 [(0x0010, 0xC0#8), (0x0200, 0x11#8), (0x0201, 0x10#8)] with a := 0x01#8, p := { n := false, v := false, d := false, i := true, z := false, c := false } })
    (fun t => t.pc == 0x0202#16 && t.p.n == true && t.p.v == true && t.p.z == true && t.a == 0x01#8 && t.x == 0x00#8 && t.y == 0x00#8 && t.sp == 0x00#8) = true := rfl

/-- V54: `ASL $10`. -/
theorem test_asl_V54 : passes (step { machine .t65n02 .std 0x0200#16 [(0x0010, 0xC0#8), (0x0200, 0x06#8), (0x0201, 0x10#8)] with p := { n := false, v := false, d := false, i := true, z := false, c := false } })
    (fun t => t.pc == 0x0202#16 && t.byteAt 0x0010#16 == 0x80#8 && t.p.n == true && t.p.z == false && t.p.c == true && t.a == 0x00#8 && t.x == 0x00#8 && t.y == 0x00#8) = true := rfl

/-- V56: `LSR $12FF,X`. -/
theorem test_lsr_V56 : passes (step { machine .t65n02 .sun 0x0200#16 [(0x0200, 0xCB#8), (0x0201, 0xFF#8), (0x0202, 0x12#8), (0x1300, 0x01#8)] with x := 0x01#8, p := { n := false, v := false, d := false, i := true, z := false, c := false } })
    (fun t => t.pc == 0x0203#16 && t.byteAt 0x1300#16 == 0x00#8 && t.p.n == false && t.p.z == true && t.p.c == true && t.a == 0x00#8 && t.x == 0x01#8 && t.y == 0x00#8) = true := rfl

/-- V50: `ROL A`. -/
theorem test_rol_V50 : passes (step { machine .cpu12 .std 0x0200#16 [(0x0200, 0x2A#8)] with a := 0x00#8, p := { n := false, v := false, d := false, i := true, z := false, c := true } })
    (fun t => t.pc == 0x0201#16 && t.a == 0x01#8 && t.p.n == false && t.p.z == false && t.p.c == false && t.x == 0x00#8 && t.y == 0x00#8 && t.sp == 0x00#8) = true := rfl

/-- V58: `ROR $10`. -/
theorem test_ror_V58 : passes (step { machine .t65s02 .sun 0x0200#16 [(0x0010, 0x02#8), (0x0200, 0x93#8), (0x0201, 0x10#8)] with p := { n := false, v := false, d := false, i := true, z := false, c := true } })
    (fun t => t.pc == 0x0202#16 && t.byteAt 0x0010#16 == 0x81#8 && t.p.n == true && t.p.z == false && t.p.c == false && t.a == 0x00#8 && t.x == 0x00#8 && t.y == 0x00#8) = true := rfl

/-- V59: `INC $10`. -/
theorem test_inc_V59 : passes (step { machine .cpu12 .std 0x0200#16 [(0x0010, 0xFF#8), (0x0200, 0xE6#8), (0x0201, 0x10#8)] with p := { n := false, v := false, d := false, i := true, z := false, c := false } })
    (fun t => t.pc == 0x0202#16 && t.byteAt 0x0010#16 == 0x00#8 && t.p.n == false && t.p.z == true && t.a == 0x00#8 && t.x == 0x00#8 && t.y == 0x00#8 && t.sp == 0x00#8) = true := rfl

/-- V62: `DEC $10,X`. -/
theorem test_dec_V62 : passes (step { machine .t65r02 .sun 0x0200#16 [(0x0008, 0x01#8), (0x0200, 0xAB#8), (0x0201, 0x10#8)] with x := 0xF8#8, p := { n := false, v := false, d := false, i := true, z := false, c := false } })
    (fun t => t.pc == 0x0202#16 && t.byteAt 0x0008#16 == 0x00#8 && t.p.n == false && t.p.z == true && t.a == 0x00#8 && t.x == 0xF8#8 && t.y == 0x00#8 && t.sp == 0x00#8) = true := rfl

/-- V63: `INX`. -/
theorem test_inx_V63 : passes (step { machine .cpu12 .std 0x0200#16 [(0x0200, 0xE8#8)] with x := 0xFF#8, p := { n := false, v := false, d := false, i := true, z := false, c := false } })
    (fun t => t.pc == 0x0201#16 && t.x == 0x00#8 && t.p.n == false && t.p.z == true && t.a == 0x00#8 && t.y == 0x00#8 && t.sp == 0x00#8 && t.p.v == false) = true := rfl

/-- V64: `DEX`. -/
theorem test_dex_V64 : passes (step { machine .cpu12 .sun 0x0200#16 [(0x0200, 0xE2#8)] with x := 0x00#8, p := { n := false, v := false, d := false, i := true, z := false, c := false } })
    (fun t => t.pc == 0x0201#16 && t.x == 0xFF#8 && t.p.n == true && t.p.z == false && t.a == 0x00#8 && t.y == 0x00#8 && t.sp == 0x00#8 && t.p.v == false) = true := rfl

/-- V66: `INY`. -/
theorem test_iny_V66 : passes (step { machine .t65n02 .std 0x0200#16 [(0x0200, 0xC8#8)] with y := 0x7F#8, p := { n := false, v := false, d := false, i := true, z := false, c := false } })
    (fun t => t.pc == 0x0201#16 && t.y == 0x80#8 && t.p.n == true && t.p.z == false && t.a == 0x00#8 && t.x == 0x00#8 && t.sp == 0x00#8 && t.p.v == false) = true := rfl

/-- V67: `DEY`. -/
theorem test_dey_V67 : passes (step { machine .t65n02 .sun 0x0200#16 [(0x0200, 0x60#8)] with y := 0x00#8, p := { n := false, v := false, d := false, i := true, z := false, c := false } })
    (fun t => t.pc == 0x0201#16 && t.y == 0xFF#8 && t.p.n == true && t.p.z == false && t.a == 0x00#8 && t.x == 0x00#8 && t.sp == 0x00#8 && t.p.v == false) = true := rfl

/-- V71: `CMP #$FF`. -/
theorem test_cmp_V71 : passes (step { machine .cpu12 .std 0x0200#16 [(0x0200, 0xC9#8), (0x0201, 0xFF#8)] with a := 0x00#8, p := { n := false, v := false, d := false, i := true, z := false, c := false } })
    (fun t => t.pc == 0x0202#16 && t.p.n == false && t.p.z == false && t.p.c == false && t.a == 0x00#8 && t.x == 0x00#8 && t.y == 0x00#8 && t.sp == 0x00#8) = true := rfl

/-- V74: `CPX #$10`. -/
theorem test_cpx_V74 : passes (step { machine .t65s02 .sun 0x0200#16 [(0x0200, 0x32#8), (0x0201, 0x10#8)] with x := 0x0F#8, p := { n := false, v := false, d := false, i := true, z := false, c := false } })
    (fun t => t.pc == 0x0202#16 && t.p.n == true && t.p.z == false && t.p.c == false && t.a == 0x00#8 && t.x == 0x0F#8 && t.y == 0x00#8 && t.sp == 0x00#8) = true := rfl

/-- V77: `CPY $1234`. -/
theorem test_cpy_V77 : passes (step { machine .t65b02 .std 0x0200#16 [(0x0200, 0xCC#8), (0x0201, 0x34#8), (0x0202, 0x12#8), (0x1234, 0x10#8)] with y := 0x90#8, p := { n := false, v := false, d := false, i := true, z := false, c := false } })
    (fun t => t.pc == 0x0203#16 && t.p.n == true && t.p.z == false && t.p.c == true && t.a == 0x00#8 && t.x == 0x00#8 && t.y == 0x90#8 && t.sp == 0x00#8) = true := rfl

/-- V83: `LDA ($FF),Y`. -/
theorem test_lda_V83 : passes (step { machine .t65n02 .sun 0x0200#16 [(0x0000, 0x20#8), (0x00FF, 0x10#8), (0x0200, 0x3C#8), (0x0201, 0xFF#8), (0x2011, 0x07#8)] with y := 0x01#8, p := { n := false, v := false, d := false, i := true, z := false, c := false } })
    (fun t => t.pc == 0x0202#16 && t.a == 0x07#8 && t.p.n == false && t.p.z == false && t.x == 0x00#8 && t.y == 0x01#8 && t.sp == 0x00#8 && t.p.v == false) = true := rfl

/-- V82: `LDA $FFFF,X`. -/
theorem test_lda_V82 : passes (step { machine .t65r02 .std 0x0200#16 [(0x0001, 0x99#8), (0x0200, 0xBD#8), (0x0201, 0xFF#8), (0x0202, 0xFF#8)] with x := 0x02#8, p := { n := false, v := false, d := false, i := true, z := false, c := false } })
    (fun t => t.pc == 0x0203#16 && t.a == 0x99#8 && t.p.n == true && t.p.z == false && t.x == 0x02#8 && t.y == 0x00#8 && t.sp == 0x00#8 && t.p.v == false) = true := rfl

/-- V85: `LDX $10,Y`. -/
theorem test_ldx_V85 : passes (step { machine .t65n02 .sun 0x0200#16 [(0x0015, 0x00#8), (0x0200, 0xB9#8), (0x0201, 0x10#8)] with y := 0x05#8, p := { n := false, v := false, d := false, i := true, z := false, c := false } })
    (fun t => t.pc == 0x0202#16 && t.x == 0x00#8 && t.p.n == false && t.p.z == true && t.a == 0x00#8 && t.y == 0x05#8 && t.sp == 0x00#8 && t.p.v == false) = true := rfl

/-- V87: `LDY $1234,X`. -/
theorem test_ldy_V87 : passes (step { machine .t65n02 .std 0x0200#16 [(0x0200, 0xBC#8), (0x0201, 0x34#8), (0x0202, 0x12#8), (0x1235, 0x7F#8)] with x := 0x01#8, p := { n := false, v := false, d := false, i := true, z := false, c := false } })
    (fun t => t.pc == 0x0203#16 && t.y == 0x7F#8 && t.p.n == false && t.p.z == false && t.a == 0x00#8 && t.x == 0x01#8 && t.sp == 0x00#8 && t.p.v == false) = true := rfl

/-- V90: `STA ($20),Y`. -/
theorem test_sta_V90 : passes (step { machine .t65n02 .sun 0x0200#16 [(0x0020, 0x01#8), (0x0021, 0x30#8), (0x0200, 0x2C#8), (0x0201, 0x20#8)] with a := 0xA5#8, y := 0xFF#8, p := { n := false, v := false, d := false, i := true, z := false, c := false } })
    (fun t => t.pc == 0x0202#16 && t.byteAt 0x3100#16 == 0xA5#8 && t.a == 0xA5#8 && t.x == 0x00#8 && t.y == 0xFF#8 && t.sp == 0x00#8 && t.p.n == false && t.p.v == false) = true := rfl

/-- V91: `STX $10,Y`. -/
theorem test_stx_V91 : passes (step { machine .t65b02 .std 0x0200#16 [(0x0200, 0x96#8), (0x0201, 0x10#8)] with x := 0x33#8, y := 0xF1#8, p := { n := false, v := false, d := false, i := true, z := false, c := false } })
    (fun t => t.pc == 0x0202#16 && t.byteAt 0x0001#16 == 0x33#8 && t.a == 0x00#8 && t.x == 0x33#8 && t.y == 0xF1#8 && t.sp == 0x00#8 && t.p.n == false && t.p.v == false) = true := rfl

/-- V92: `STY $1234`. -/
theorem test_sty_V92 : passes (step { machine .t65n02 .sun 0x0200#16 [(0x0200, 0x61#8), (0x0201, 0x34#8), (0x0202, 0x12#8)] with y := 0x80#8, p := { n := false, v := false, d := false, i := true, z := false, c := false } })
    (fun t => t.pc == 0x0203#16 && t.byteAt 0x1234#16 == 0x80#8 && t.a == 0x00#8 && t.x == 0x00#8 && t.y == 0x80#8 && t.sp == 0x00#8 && t.p.n == false && t.p.v == false) = true := rfl

/-- V93: `TAX`. -/
theorem test_tax_V93 : passes (step { machine .cpu12 .std 0x0200#16 [(0x0200, 0xAA#8)] with a := 0x00#8, p := { n := false, v := false, d := false, i := true, z := false, c := false } })
    (fun t => t.pc == 0x0201#16 && t.x == 0x00#8 && t.p.n == false && t.p.z == true && t.a == 0x00#8 && t.y == 0x00#8 && t.sp == 0x00#8 && t.p.v == false) = true := rfl

/-- V94: `TXA`. -/
theorem test_txa_V94 : passes (step { machine .t65r02 .sun 0x0200#16 [(0x0200, 0xE0#8)] with x := 0x80#8, p := { n := false, v := false, d := false, i := true, z := false, c := false } })
    (fun t => t.pc == 0x0201#16 && t.a == 0x80#8 && t.p.n == true && t.p.z == false && t.x == 0x80#8 && t.y == 0x00#8 && t.sp == 0x00#8 && t.p.v == false) = true := rfl

/-- V95: `TAY`. -/
theorem test_tay_V95 : passes (step { machine .t65n02 .std 0x0200#16 [(0x0200, 0xA8#8)] with a := 0x7F#8, p := { n := false, v := false, d := false, i := true, z := false, c := false } })
    (fun t => t.pc == 0x0201#16 && t.y == 0x7F#8 && t.p.n == false && t.p.z == false && t.a == 0x7F#8 && t.x == 0x00#8 && t.sp == 0x00#8 && t.p.v == false) = true := rfl

/-- V96: `TYA`. -/
theorem test_tya_V96 : passes (step { machine .t65b02 .sun 0x0200#16 [(0x0200, 0x68#8)] with y := 0x00#8, p := { n := false, v := false, d := false, i := true, z := false, c := false } })
    (fun t => t.pc == 0x0201#16 && t.a == 0x00#8 && t.p.n == false && t.p.z == true && t.x == 0x00#8 && t.y == 0x00#8 && t.sp == 0x00#8 && t.p.v == false) = true := rfl

/-- V97: `TSX`. -/
theorem test_tsx_V97 : passes (step { machine .cpu12 .std 0x0200#16 [(0x0200, 0xBA#8)] with sp := 0xFD#8, p := { n := false, v := false, d := false, i := true, z := false, c := false } })
    (fun t => t.pc == 0x0201#16 && t.x == 0xFD#8 && t.p.n == true && t.p.z == false && t.a == 0x00#8 && t.y == 0x00#8 && t.sp == 0xFD#8 && t.p.v == false) = true := rfl

/-- V98: `TXS`. -/
theorem test_txs_V98 : passes (step { machine .cpu12 .sun 0x0200#16 [(0x0200, 0xE8#8)] with x := 0x00#8, p := { n := false, v := false, d := false, i := true, z := false, c := false } })
    (fun t => t.pc == 0x0201#16 && t.sp == 0x00#8 && t.a == 0x00#8 && t.x == 0x00#8 && t.y == 0x00#8 && t.p.n == false && t.p.v == false && t.p.d == false) = true := rfl

/-- V99: `CLC`. -/
theorem test_clc_V99 : passes (step { machine .cpu12 .std 0x0200#16 [(0x0200, 0x18#8)] with p := { n := false, v := false, d := false, i := true, z := false, c := false } })
    (fun t => t.pc == 0x0201#16 && t.p.c == false && t.a == 0x00#8 && t.x == 0x00#8 && t.y == 0x00#8 && t.sp == 0x00#8 && t.p.n == false && t.p.v == false) = true := rfl

/-- V100: `SEC`. -/
theorem test_sec_V100 : passes (step { machine .cpu12 .sun 0x0200#16 [(0x0200, 0x58#8)] with p := { n := false, v := false, d := false, i := true, z := false, c := false } })
    (fun t => t.pc == 0x0201#16 && t.p.c == true && t.a == 0x00#8 && t.x == 0x00#8 && t.y == 0x00#8 && t.sp == 0x00#8 && t.p.n == false && t.p.v == false) = true := rfl

/-- V101: `CLD`. -/
theorem test_cld_V101 : passes (step { machine .t65n02 .std 0x0200#16 [(0x0200, 0xD8#8)] with p := { n := false, v := false, d := false, i := true, z := false, c := false } })
    (fun t => t.pc == 0x0201#16 && t.p.d == false && t.a == 0x00#8 && t.x == 0x00#8 && t.y == 0x00#8 && t.sp == 0x00#8 && t.p.n == false && t.p.v == false) = true := rfl

/-- V102: `SED`. -/
theorem test_sed_V102 : passes (step { machine .t65b02 .sun 0x0200#16 [(0x0200, 0x7A#8)] with p := { n := false, v := false, d := false, i := true, z := false, c := false } })
    (fun t => t.pc == 0x0201#16 && t.p.d == true && t.a == 0x00#8 && t.x == 0x00#8 && t.y == 0x00#8 && t.sp == 0x00#8 && t.p.n == false && t.p.v == false) = true := rfl

/-- V103: `CLI`. -/
theorem test_cli_V103 : passes (step { machine .t65s02 .std 0x0200#16 [(0x0200, 0x58#8)] with p := { n := false, v := false, d := false, i := true, z := false, c := false } })
    (fun t => t.pc == 0x0201#16 && t.p.i == false && t.a == 0x00#8 && t.x == 0x00#8 && t.y == 0x00#8 && t.sp == 0x00#8 && t.p.n == false && t.p.v == false) = true := rfl

/-- V104: `SEI`. -/
theorem test_sei_V104 : passes (step { machine .t65r02 .sun 0x0200#16 [(0x0200, 0x5A#8)] with p := { n := false, v := false, d := false, i := true, z := false, c := false } })
    (fun t => t.pc == 0x0201#16 && t.p.i == true && t.a == 0x00#8 && t.x == 0x00#8 && t.y == 0x00#8 && t.sp == 0x00#8 && t.p.n == false && t.p.v == false) = true := rfl

/-- V105: `CLV`. -/
theorem test_clv_V105 : passes (step { machine .cpu12 .std 0x0200#16 [(0x0200, 0xB8#8)] with p := { n := false, v := false, d := false, i := true, z := false, c := false } })
    (fun t => t.pc == 0x0201#16 && t.p.v == false && t.a == 0x00#8 && t.x == 0x00#8 && t.y == 0x00#8 && t.sp == 0x00#8 && t.p.n == false && t.p.d == false) = true := rfl

/-- V106: `NOP`. -/
theorem test_nop_V106 : passes (step { machine .cpu12 .sun 0x0200#16 [(0x0200, 0xF2#8)] with p := { n := false, v := false, d := false, i := true, z := false, c := false } })
    (fun t => t.pc == 0x0201#16 && t.a == 0x00#8 && t.x == 0x00#8 && t.y == 0x00#8 && t.sp == 0x00#8 && t.p.n == false && t.p.v == false && t.p.d == false) = true := rfl

/-- V107: `SET $10,7`. -/
theorem test_set_V107 : passes (step { machine .t65b02 .std 0x0200#16 [(0x0010, 0x00#8), (0x0200, 0xFF#8), (0x0201, 0x10#8)] with p := { n := false, v := false, d := false, i := true, z := false, c := false } })
    (fun t => t.pc == 0x0202#16 && t.byteAt 0x0010#16 == 0x80#8 && t.a == 0x00#8 && t.x == 0x00#8 && t.y == 0x00#8 && t.sp == 0x00#8 && t.p.n == false && t.p.v == false) = true := rfl

/-- V109: `CLR $10,3`. -/
theorem test_clr_V109 : passes (step { machine .t65b02 .sun 0x0200#16 [(0x0010, 0xFF#8), (0x0200, 0xDD#8), (0x0201, 0x10#8)] with p := { n := false, v := false, d := false, i := true, z := false, c := false } })
    (fun t => t.pc == 0x0202#16 && t.byteAt 0x0010#16 == 0xF7#8 && t.a == 0x00#8 && t.x == 0x00#8 && t.y == 0x00#8 && t.sp == 0x00#8 && t.p.n == false && t.p.v == false) = true := rfl

/-- V110: `INV $10,4`. -/
theorem test_inv_V110 : passes (step { machine .t65b02 .std 0x0200#16 [(0x0010, 0x10#8), (0x0200, 0xC7#8), (0x0201, 0x10#8)] with p := { n := false, v := false, d := false, i := true, z := false, c := false } })
    (fun t => t.pc == 0x0202#16 && t.byteAt 0x0010#16 == 0x00#8 && t.a == 0x00#8 && t.x == 0x00#8 && t.y == 0x00#8 && t.sp == 0x00#8 && t.p.n == false && t.p.v == false) = true := rfl

/-- V113: `TST $10,5`. -/
theorem test_tst_V113 : passes (step { machine .t65b02 .sun 0x0200#16 [(0x0010, 0xDF#8), (0x0200, 0x8F#8), (0x0201, 0x10#8)] with p := { n := false, v := false, d := false, i := true, z := false, c := false } })
    (fun t => t.pc == 0x0202#16 && t.p.z == true && t.a == 0x00#8 && t.x == 0x00#8 && t.y == 0x00#8 && t.sp == 0x00#8 && t.p.n == false && t.p.v == false) = true := rfl

/-- V114: `BCC $0212`. -/
theorem test_bcc_V114 : passes (step { machine .t65b02 .std 0x0200#16 [(0x0200, 0x90#8), (0x0201, 0x10#8)] with p := { n := false, v := false, d := false, i := true, z := false, c := false } })
    (fun t => t.pc == 0x0212#16 && t.a == 0x00#8 && t.x == 0x00#8 && t.y == 0x00#8 && t.sp == 0x00#8 && t.p.n == false && t.p.v == false && t.p.d == false) = true := rfl

/-- V125: `BCC $0010`. -/
theorem test_bcc_V125 : passes (step { machine .t65b02 .sun 0xFFF0#16 [(0xFFF0, 0x28#8), (0xFFF1, 0x1E#8)] with p := { n := false, v := false, d := false, i := true, z := false, c := false } })
    (fun t => t.pc == 0x0010#16 && t.a == 0x00#8 && t.x == 0x00#8 && t.y == 0x00#8 && t.sp == 0x00#8 && t.p.n == false && t.p.v == false && t.p.d == false) = true := rfl

/-- V116: `BCS $0281`. -/
theorem test_bcs_V116 : passes (step { machine .cpu12 .std 0x0200#16 [(0x0200, 0xB0#8), (0x0201, 0x7F#8)] with p := { n := false, v := false, d := false, i := true, z := false, c := true } })
    (fun t => t.pc == 0x0281#16 && t.a == 0x00#8 && t.x == 0x00#8 && t.y == 0x00#8 && t.sp == 0x00#8 && t.p.n == false && t.p.v == false && t.p.d == false) = true := rfl

/-- V117: `BEQ $0182`. -/
theorem test_beq_V117 : passes (step { machine .t65b02 .sun 0x0200#16 [(0x0200, 0x3A#8), (0x0201, 0x80#8)] with p := { n := false, v := false, d := false, i := true, z := true, c := false } })
    (fun t => t.pc == 0x0182#16 && t.a == 0x00#8 && t.x == 0x00#8 && t.y == 0x00#8 && t.sp == 0x00#8 && t.p.n == false && t.p.v == false && t.p.d == false) = true := rfl

/-- V120: `BNE $0300`. -/
theorem test_bne_V120 : passes (step { machine .t65n02 .std 0x02F0#16 [(0x02F0, 0xD0#8), (0x02F1, 0x0E#8)] with p := { n := false, v := false, d := false, i := true, z := false, c := false } })
    (fun t => t.pc == 0x0300#16 && t.a == 0x00#8 && t.x == 0x00#8 && t.y == 0x00#8 && t.sp == 0x00#8 && t.p.n == false && t.p.v == false && t.p.d == false) = true := rfl

/-- V121: `BMI $0210`. -/
theorem test_bmi_V121 : passes (step { machine .t65r02 .sun 0x0200#16 [(0x0200, 0x18#8), (0x0201, 0x0E#8)] with p := { n := true, v := false, d := false, i := true, z := false, c := false } })
    (fun t => t.pc == 0x0210#16 && t.a == 0x00#8 && t.x == 0x00#8 && t.y == 0x00#8 && t.sp == 0x00#8 && t.p.n == true && t.p.v == false && t.p.d == false) = true := rfl

/-- V122: `BPL $0210`. -/
theorem test_bpl_V122 : passes (step { machine .t65r02 .std 0x0200#16 [(0x0200, 0x10#8), (0x0201, 0x0E#8)] with p := { n := true, v := false, d := false, i := true, z := false, c := false } })
    (fun t => t.pc == 0x0202#16 && t.a == 0x00#8 && t.x == 0x00#8 && t.y == 0x00#8 && t.sp == 0x00#8 && t.p.n == true && t.p.v == false && t.p.d == false) = true := rfl

/-- V123: `BVC $0210`. -/
theorem test_bvc_V123 : passes (step { machine .cpu12 .sun 0x0200#16 [(0x0200, 0x0A#8), (0x0201, 0x0E#8)] with p := { n := false, v := false, d := false, i := true, z := false, c := false } })
    (fun t => t.pc == 0x0210#16 && t.a == 0x00#8 && t.x == 0x00#8 && t.y == 0x00#8 && t.sp == 0x00#8 && t.p.n == false && t.p.v == false && t.p.d == false) = true := rfl

/-- V124: `BVS $0210`. -/
theorem test_bvs_V124 : passes (step { machine .cpu12 .std 0x0200#16 [(0x0200, 0x70#8), (0x0201, 0x0E#8)] with p := { n := false, v := false, d := false, i := true, z := false, c := false } })
    (fun t => t.pc == 0x0202#16 && t.a == 0x00#8 && t.x == 0x00#8 && t.y == 0x00#8 && t.sp == 0x00#8 && t.p.n == false && t.p.v == false && t.p.d == false) = true := rfl

/-- V127: `PHA`. -/
theorem test_pha_V127 : passes (step { machine .cpu12 .sun 0x0200#16 [(0x0200, 0x42#8)] with a := 0x42#8, sp := 0x00#8, p := { n := false, v := false, d := false, i := true, z := false, c := false } })
    (fun t => t.pc == 0x0201#16 && t.byteAt 0x0100#16 == 0x42#8 && t.sp == 0xFF#8 && t.a == 0x42#8 && t.x == 0x00#8 && t.y == 0x00#8 && t.p.n == false && t.p.v == false) = true := rfl

/-- V129: `PLA`. -/
theorem test_pla_V129 : passes (step { machine .cpu12 .std 0x0200#16 [(0x0100, 0x80#8), (0x0200, 0x68#8)] with sp := 0xFF#8, p := { n := false, v := false, d := false, i := true, z := false, c := false } })
    (fun t => t.pc == 0x0201#16 && t.a == 0x80#8 && t.sp == 0x00#8 && t.p.n == true && t.p.z == false && t.x == 0x00#8 && t.y == 0x00#8 && t.p.v == false) = true := rfl

/-- V131: `PLP`. -/
theorem test_plp_V131 : passes (step { machine .t65s02 .sun 0x0200#16 [(0x01FD, 0x30#8), (0x0200, 0x50#8)] with sp := 0xFC#8, p := { n := false, v := false, d := false, i := true, z := false, c := false } })
    (fun t => t.pc == 0x0201#16 && t.sp == 0xFD#8 && t.p.n == false && t.p.v == false && t.p.d == false && t.p.i == false && t.p.z == false && t.p.c == false) = true := rfl

/-- V133: `JMP ($1234)`. -/
theorem test_jmp_V133 : passes (step { machine .t65n02 .std 0x0200#16 [(0x0200, 0x6C#8), (0x0201, 0x34#8), (0x0202, 0x12#8), (0x1234, 0x78#8), (0x1235, 0x56#8)] with p := { n := false, v := false, d := false, i := true, z := false, c := false } })
    (fun t => t.pc == 0x5678#16 && t.a == 0x00#8 && t.x == 0x00#8 && t.y == 0x00#8 && t.sp == 0x00#8 && t.p.n == false && t.p.v == false && t.p.d == false) = true := rfl

/-- V136: `JMP ($12FF)`. -/
theorem test_jmp_V136 : passes (step { ({ machine .t65b02 .sun 0x0200#16 [(0x0200, 0x53#8), (0x0201, 0xFF#8), (0x0202, 0x12#8), (0x1200, 0x9A#8), (0x12FF, 0x78#8), (0x1300, 0x56#8)] with p := { n := false, v := false, d := false, i := true, z := false, c := false } }) with chip := { ({ machine .t65b02 .sun 0x0200#16 [(0x0200, 0x53#8), (0x0201, 0xFF#8), (0x0202, 0x12#8), (0x1200, 0x9A#8), (0x12FF, 0x78#8), (0x1300, 0x56#8)] with p := { n := false, v := false, d := false, i := true, z := false, c := false } }).chip with jmpIndWrap := some .nocarry } })
    (fun t => t.pc == 0x9A78#16 && t.a == 0x00#8 && t.x == 0x00#8 && t.y == 0x00#8 && t.sp == 0x00#8 && t.p.n == false && t.p.v == false && t.p.d == false) = true := rfl

/-- V138: `JSR $1234`. -/
theorem test_jsr_V138 : passes (step { machine .cpu12 .std 0x02FE#16 [(0x02FE, 0x20#8), (0x02FF, 0x34#8), (0x0300, 0x12#8)] with sp := 0xFF#8, p := { n := false, v := false, d := false, i := true, z := false, c := false } })
    (fun t => t.pc == 0x1234#16 && t.byteAt 0x01FE#16 == 0x00#8 && t.byteAt 0x01FF#16 == 0x03#8 && t.sp == 0xFD#8 && t.a == 0x00#8 && t.x == 0x00#8 && t.y == 0x00#8 && t.p.n == false) = true := rfl

/-- V140: `RTS`. -/
theorem test_rts_V140 : passes (step { machine .cpu12 .sun 0x0200#16 [(0x01FE, 0xFF#8), (0x01FF, 0xFF#8), (0x0200, 0x12#8)] with sp := 0xFD#8, p := { n := false, v := false, d := false, i := true, z := false, c := false } })
    (fun t => t.pc == 0x0000#16 && t.sp == 0xFF#8 && t.a == 0x00#8 && t.x == 0x00#8 && t.y == 0x00#8 && t.p.n == false && t.p.v == false && t.p.d == false) = true := rfl

/-- V141: `RTI`. -/
theorem test_rti_V141 : passes (step { machine .cpu12 .std 0x0200#16 [(0x01FD, 0xC3#8), (0x01FE, 0x34#8), (0x01FF, 0x12#8), (0x0200, 0x40#8)] with sp := 0xFC#8, p := { n := false, v := false, d := false, i := true, z := false, c := false } })
    (fun t => t.pc == 0x1234#16 && t.sp == 0xFF#8 && t.p.n == true && t.p.v == true && t.p.d == false && t.p.i == false && t.p.z == true && t.p.c == true) = true := rfl

/-- X5: the byte PHP pushes on 65n02, whatever its bits 5 and 4 are. -/
theorem test_status_byte_X5 (u5 u4 : Bool) :
    byteOfFlags { n := true, v := true, d := false, i := true, z := false, c := true } u5 u4 false &&& 0xCF#8 = 0xC5#8 := by
  revert u5 u4; decide

/-- X7: pulling 3CH ignores bits 5 and 4. -/
theorem test_status_pull_X7 :
    flagsOfByte 0x3C#8 = { n := false, v := false, d := true, i := true, z := false, c := false } := rfl

/-- The state of X1: an interrupt pending at 0345H, the vector FFFEH holding 9000H. -/
def interrupted : State :=
  { machine .t65b02 .std 0x0345#16 [(0x0345, 0xEA#8), (0xFFFE, 0x00#8), (0xFFFF, 0x90#8)] with
    sp := 0xFD#8, p := { n := true, v := false, d := false, i := false, z := false, c := true }
    irq := { pending := true, accept := true } }

/-- X1: interrupt entry. -/
theorem test_interrupt_X1 : passes (step interrupted) (fun t => t.pc == 0x9000#16 && t.sp == 0xFA#8 && t.p.i &&
    t.byteAt 0x01FD#16 == 0x03#8 && t.byteAt 0x01FC#16 == 0x45#8) = true := rfl

/-- X3: with I = 1 the instruction at pc executes. -/
theorem test_interrupt_masked_X3 :
    passes (step { interrupted with p := { interrupted.p with i := true } }) (fun t => t.pc == 0x0346#16 && t.sp == 0xFD#8) = true :=
  rfl

/-- X9: a run starts at the word at RESET_VECTOR with I = 1. -/
theorem test_reset_X9 :
    passes (resetRun { Chip.default with start := some (.vector 0xFFFC#16) } [(0xFFFC, 0x00#8), (0xFFFD, 0x80#8)]
      IrqInput.quiet [])
      (fun t => t.pc == 0x8000#16 && t.p.i) = true := rfl

/-- A run whose environment drives a request from reset on: it is ignored while I is 1, and taken right after CLI (R233, R206). -/
theorem test_request_from_reset :
    passes (resetRun Chip.default [(0x0200, 0x58#8)] { pending := true, accept := true } [])
      (fun s => passes (step s) (fun t => t.pc == 0x0201#16 && passes (step t) (fun u => u.p.i && u.sp == 0xFD#8))) = true := rfl

/-- Right after reset the very next step runs the instruction placed there. -/
theorem test_withFetchWord : passes (step (State.reset.withFetchWord 16 0x77A9)) (fun t => t.a == 0x77#8 && t.pc == 0x0202#16) = true :=
  rfl

/-- S6, S16: assembly text and number formats. -/
theorem test_assembly : instrText 0#16 (.staZpx 0x60#8) = "STA $60, X" ∧ numberValue "%00000001" = some 1 ∧
    numberValue "0ABH" = some 0xAB ∧ numberValue "01D" = some 1 := ⟨rfl, rfl, rfl, rfl⟩

/-! ## Witnesses: states and operands that meet the hypotheses of the statements -/

/-- The state of a step that completed. -/
def stateOf (o : Out) : State :=
  match o with
  | .next t => t
  | .fault _ => State.reset
  | .refused _ => State.reset

/-- A chip with one ROM, one I/O and one unmapped byte in page zero and in the stack page. -/
def mixed : Chip :=
  { Chip.default with
    regions := [⟨0x0010#16, 1, .rom⟩, ⟨0x0011#16, 1, .io⟩, ⟨0x0012#16, 1, .unmapped⟩, ⟨0x01F0#16, 1, .rom⟩, ⟨0x01F1#16, 1, .io⟩,
      ⟨0x01F2#16, 1, .unmapped⟩] }

/-- A machine with the chip `mixed`, its SP, and I clear. -/
def mixedAt (sp : Byte) : State :=
  { State.initial mixed [(0x0200, 0xEA#8)] 0x0200#16 IrqInput.quiet [] with
    sp := sp, p := { n := false, v := false, d := false, i := false, z := false, c := false } }

/-- A machine with nothing behind any address. -/
def bare : State := State.initial { Chip.default with elsewhere := .unmapped } [] 0x0200#16 IrqInput.quiet []

/-- A machine with a NOP at pc. -/
def atNop : State := machine .t65b02 .std 0xFFFF#16 [(0xFFFF, 0xEA#8)]

/-- A machine in decimal mode with A = 19H and M = 28H, the operand of `ADC #28H` (V23). -/
def decimalState : State :=
  { machine .t65b02 .std 0x0200#16 [] with
    a := 0x19#8, p := { n := false, v := false, d := true, i := true, z := false, c := true } }

theorem witness_DecodedBytesAreEncoding : decode .std [0x6D#8, 0x34#8, 0x12#8, 0xFF#8] = .ok (.adcAbs 0x1234#16, [0xFF#8]) := rfl

theorem witness_StepRunsFetchedInstruction : interruptTaken atNop = false ∧ fetch (nextInput atNop) = .ok (.nop, nextInput atNop) ∧
    interruptTaken bare = false ∧ fetch (nextInput bare) = .error (.unmappedRead 0x0200#16) := ⟨rfl, rfl, rfl, rfl⟩

/-- `JMP 0210H` at FFFEH: its last byte is at 0000H. -/
def wrapping : State := machine .t65s02 .sun 0xFFFE#16 [(0x0000, 0x02#8), (0xFFFE, 0x43#8), (0xFFFF, 0x10#8)]

theorem witness_FetchReadsTheEncodedInstruction : (Instr.jmpAbs 0x0210#16).wellFormed wrapping.chip.cpu = true ∧
    (∀ (k : Nat) (b : Byte), (encode wrapping.chip.opMap (.jmpAbs 0x0210#16))[k]? = some b →
      HoldsByte wrapping (wrapping.pc + BitVec.ofNat 16 k) ∧ wrapping.byteAt (wrapping.pc + BitVec.ofNat 16 k) = b) ∧
    interruptTaken wrapping = false := by
  refine ⟨rfl, fun k b h => ?_, rfl⟩
  match k with
  | 0 => cases h; exact ⟨.inr rfl, rfl⟩
  | 1 => cases h; exact ⟨.inr rfl, rfl⟩
  | 2 => cases h; exact ⟨.inr rfl, rfl⟩
  | n + 3 => cases h

/-- `LDA #dd` whose opcode is in ROM and whose operand byte is in I/O: dd is the next drawn byte. -/
def loadingIo : State := { machine .t65b02 .std 0x0010#16 [(0x0010, 0xA9#8)] with chip := mixed }

theorem witness_FetchReadsTheEncodedInstruction_io :
    (Instr.ldaImm (Config.freeByte 0)).wellFormed loadingIo.chip.cpu = true ∧ interruptTaken loadingIo = false ∧
    ReadsBytes loadingIo loadingIo.pc (encode loadingIo.chip.opMap (.ldaImm (Config.freeByte 0))) { loadingIo with draws := 1 } ∧
    ReadsBytes (nextInput loadingIo) loadingIo.pc (encode loadingIo.chip.opMap (.ldaImm (Config.freeByte 0)))
      { loadingIo with draws := 1 } := ⟨rfl, rfl, ⟨_, rfl, _, rfl, rfl⟩, _, rfl, _, rfl, rfl⟩

/-- A machine with an unassigned byte at pc, FCH in both maps. -/
def atIllegal (map : OpMap) : State := machine .t65b02 map 0x0200#16 [(0x0200, 0xFC#8)]

theorem witness_UnassignedOpcodeStopsTheStep (map : OpMap) : interruptTaken (atIllegal map) = false ∧
    HoldsByte (atIllegal map) (atIllegal map).pc ∧
    (match (atIllegal map).chip.opMap with
      | .std => ((atIllegal map).byteAt (atIllegal map).pc).toNat ∈ unassignedStd
      | .sun => ((atIllegal map).byteAt (atIllegal map).pc).toNat ∈ unassignedSun) := by
  cases map
  · exact ⟨rfl, .inr rfl, (by decide : 0xFC ∈ unassignedStd)⟩
  · exact ⟨rfl, .inr rfl, (by decide : 0xFC ∈ unassignedSun)⟩

/-- A 65n02 with the opcode of CLR aa, 0 at pc. -/
def atUnavailable : State := machine .t65n02 .std 0x0200#16 [(0x0200, 0x0F#8)]

theorem witness_UnavailableOpcodeStopsTheStep : interruptTaken atUnavailable = false ∧ HoldsByte atUnavailable atUnavailable.pc ∧
    (encode atUnavailable.chip.opMap (.clr0 0x10#8)).head? = some (atUnavailable.byteAt atUnavailable.pc) ∧
    (Instr.clr0 0x10#8).wellFormed atUnavailable.chip.cpu = false := ⟨rfl, .inr rfl, rfl, rfl⟩

/-- An absolute load whose opcode alone, and one whose opcode and first operand byte alone, are mapped. -/
def cutOff (mapped : Nat) : State :=
  { machine .t65b02 .std 0x0200#16 [(0x0200, 0xAD#8), (0x0201, 0x34#8)] with
    chip := { Chip.default with regions := [⟨0x0200#16, mapped, .ram⟩], elsewhere := .unmapped } }

theorem witness_UnmappedFetchStopsTheStep : (interruptTaken bare = false ∧ bare.kindAt bare.pc = .unmapped) ∧
    (interruptTaken (cutOff 1) = false ∧ (Instr.ldaAbs 0#16).wellFormed (cutOff 1).chip.cpu = true ∧
      memRead (cutOff 1) (cutOff 1).pc = .ok (0xAD#8, cutOff 1) ∧
      (encode (cutOff 1).chip.opMap (.ldaAbs 0#16)).head? = some 0xAD#8 ∧ 2 ≤ (Instr.ldaAbs 0#16).length ∧
      (cutOff 1).kindAt ((cutOff 1).pc + 1#16) = .unmapped) ∧
    (interruptTaken (cutOff 2) = false ∧ memRead (cutOff 2) (cutOff 2).pc = .ok (0xAD#8, cutOff 2) ∧
      (Instr.ldaAbs 0#16).length = 3 ∧ (cutOff 2).kindAt ((cutOff 2).pc + 1#16) ≠ .unmapped ∧
      (cutOff 2).kindAt ((cutOff 2).pc + 2#16) = .unmapped) :=
  ⟨⟨rfl, rfl⟩, ⟨rfl, rfl, rfl, rfl, by decide, rfl⟩, rfl, rfl, rfl, by decide, rfl⟩

/-- `interrupted` with one of the three conditions not met. -/
def masked : State := { interrupted with p := { interrupted.p with i := true } }
def quiet : State := { interrupted with irq := { pending := false, accept := true } }
def waiting : State := { interrupted with irq := { pending := true, accept := false } }

theorem witness_InterruptAcceptance :
    (masked.p.i = true ∧ fetch (nextInput masked) = .ok (.nop, nextInput masked)) ∧
    (quiet.irq.pending = false ∧ fetch (nextInput quiet) = .ok (.nop, nextInput quiet)) ∧
    (waiting.irq.accept = false ∧ fetch (nextInput waiting) = .ok (.nop, nextInput waiting)) ∧
    (interrupted.p.i = false ∧ interrupted.irq.pending = true ∧ interrupted.irq.accept = true) :=
  ⟨⟨rfl, rfl⟩, ⟨rfl, rfl⟩, ⟨rfl, rfl⟩, rfl, rfl, rfl⟩

/-- `interrupted` with SP = 01H: the third push wraps to FFH. -/
def interruptedLow : State := { interrupted with sp := 0x01#8 }

theorem witness_InterruptEntryEffect : interruptedLow.p.i = false ∧ interruptedLow.irq.pending = true ∧
    interruptedLow.irq.accept = true ∧ interruptedLow.chip.irqVector = some 0xFFFE#16 ∧ HoldsByte interruptedLow 0xFFFE#16 ∧
    HoldsByte interruptedLow (0xFFFE#16 + 1#16) ∧
    interruptedLow.kindAt (addrOf interruptedLow.chip.stackPage interruptedLow.sp) ≠ .unmapped ∧
    interruptedLow.kindAt (addrOf interruptedLow.chip.stackPage (interruptedLow.sp - 1#8)) ≠ .unmapped ∧
    interruptedLow.kindAt (addrOf interruptedLow.chip.stackPage (interruptedLow.sp - 2#8)) ≠ .unmapped :=
  ⟨rfl, rfl, rfl, rfl, .inr rfl, .inr rfl, by decide, by decide, by decide⟩

/-- The chip `mixed` with a request pending, a stack pointer and an interrupt vector. -/
def requested (sp : Byte) (vector : Option Addr) : State :=
  { mixedAt sp with irq := { pending := true, accept := true }, chip := { mixed with irqVector := vector } }

/-- The stack in ROM, and the low byte of the vector in I/O. -/
theorem witness_InterruptEntryEffect_rom_io : interruptTaken (requested 0xF0#8 (some 0x01F1#16)) = true ∧
    (requested 0xF0#8 (some 0x01F1#16)).kindAt 0x01F0#16 = .rom ∧ (requested 0xF0#8 (some 0x0011#16)).kindAt 0x0011#16 = .io :=
  ⟨rfl, rfl, rfl⟩

/-- The first, the second and the third stack location unmapped; no vector; its first and its second byte unmapped. -/
theorem witness_InterruptWithoutVectorFaults :
    (interruptTaken (requested 0xF2#8 none) = true ∧ (requested 0xF2#8 none).kindAt 0x01F2#16 = .unmapped) ∧
    ((requested 0xF3#8 none).kindAt 0x01F3#16 ≠ .unmapped ∧ (requested 0xF3#8 none).kindAt 0x01F2#16 = .unmapped) ∧
    ((requested 0xF4#8 none).kindAt 0x01F4#16 ≠ .unmapped ∧ (requested 0xF4#8 none).kindAt 0x01F3#16 ≠ .unmapped ∧
      (requested 0xF4#8 none).kindAt 0x01F2#16 = .unmapped) ∧
    ((requested 0x01#8 none).kindAt 0x0101#16 ≠ .unmapped ∧ (requested 0x01#8 none).kindAt 0x0100#16 ≠ .unmapped ∧
      (requested 0x01#8 none).kindAt 0x01FF#16 ≠ .unmapped ∧ (requested 0x01#8 none).chip.irqVector = none) ∧
    (requested 0x01#8 (some 0x0012#16)).kindAt 0x0012#16 = .unmapped ∧
    ((requested 0x01#8 (some 0x0011#16)).kindAt 0x0011#16 ≠ .unmapped ∧
      (requested 0x01#8 (some 0x0011#16)).kindAt (0x0011#16 + 1#16) = .unmapped) :=
  ⟨⟨rfl, rfl⟩, ⟨by decide, rfl⟩, ⟨by decide, by decide, rfl⟩, ⟨by decide, by decide, by decide, rfl⟩, rfl, by decide, rfl⟩

theorem witness_InterruptThenRtiResumes : ∃ s t u : State, s.p.i = false ∧ s.irq.pending = true ∧ s.irq.accept = true ∧
    s.kindAt (addrOf s.chip.stackPage s.sp) = .ram ∧ s.kindAt (addrOf s.chip.stackPage (s.sp - 1#8)) = .ram ∧
    s.kindAt (addrOf s.chip.stackPage (s.sp - 2#8)) = .ram ∧ step s = .next t ∧ u.sp = t.sp ∧ u.chip = t.chip ∧
    (∀ b ∈ [addrOf s.chip.stackPage s.sp, addrOf s.chip.stackPage (s.sp - 1#8), addrOf s.chip.stackPage (s.sp - 2#8)],
      u.byteAt b = t.byteAt b) :=
  ⟨interruptedLow, stateOf (step interruptedLow), stateOf (step interruptedLow), rfl, rfl, rfl, rfl, rfl, rfl, rfl, rfl, rfl,
    fun _ _ => rfl⟩

/-- A chip whose reset vector is the last byte of the address space, its high byte at 0000H. -/
def vectored : Chip := { Chip.default with start := some (.vector 0xFFFF#16) }

theorem witness_ResetRunStartsAtVectorOrStartPc :
    (vectored.start = some (.vector 0xFFFF#16) ∧ kindIn vectored 0xFFFF#16 ≠ .unmapped ∧
      kindIn vectored (0xFFFF#16 + 1#16) ≠ .unmapped) ∧
    kindIn mixed 0x0012#16 = .unmapped ∧ (kindIn mixed 0x0011#16 ≠ .unmapped ∧ kindIn mixed (0x0011#16 + 1#16) = .unmapped) ∧
    Chip.default.start = some (.pc 0x0200#16) ∧ { Chip.default with start := none }.start = none :=
  ⟨⟨rfl, by decide, by decide⟩, rfl, ⟨by decide, rfl⟩, rfl, rfl⟩

/-- Two steps that complete and write memory: `STA 10H` in RAM and interrupt entry. -/
def storing : State := machine .t65b02 .std 0x0200#16 [(0x0200, 0x85#8), (0x0201, 0x10#8)]

theorem witness_StepKeepsCanonicalMemory : ∃ s t, Memory.wf s.mem = true ∧ step s = .next t ∧ t.mem ≠ s.mem :=
  ⟨storing, stateOf (step storing), rfl, rfl, by decide⟩

theorem witness_ResetMemoryIsCanonical : ∃ (mem : Memory) (t : State), Memory.wf mem = true ∧
    resetRun Chip.default mem IrqInput.quiet [] = .next t ∧ mem ≠ [] :=
  ⟨[(0x0200, 0xEA#8)], stateOf (resetRun Chip.default [(0x0200, 0xEA#8)] IrqInput.quiet []), rfl, rfl, by decide⟩

theorem witness_StepNeverChangesTheChip : ∃ s t, step s = .next t ∧ t ≠ s := ⟨storing, stateOf (step storing), rfl, by decide⟩

/-- `STA 10H` where 10H is ROM. -/
def storingRom : State := { storing with chip := mixed }

theorem witness_StepNeverChangesBytesOutsideRam : ∃ s t, s.kindAt 0x0010#16 ≠ .ram ∧ step s = .next t :=
  ⟨storingRom, stateOf (step storingRom), by decide, rfl⟩

/-- CLC is no writer of N, V, D, I or Z, NOP none of C, and an interrupt can be entered. -/
theorem witness_FlagsChangeOnlyByTheirWriters : (∃ t, exec .clc atNop = .next t) ∧ (∃ t, exec .nop atNop = .next t) ∧
    (∃ t, enterInterrupt interrupted = .ok t) := ⟨⟨_, rfl⟩, ⟨_, rfl⟩, ⟨_, rfl⟩⟩

/-- NOP writes no register, and its mode is not the accumulator's. -/
theorem witness_RegistersChangeOnlyByTheirWriters : (∃ t, exec .nop atNop = .next t) ∧ Instr.mode .nop ≠ .acc ∧
    Instr.mnemonic .nop ∉ ["TXS", "PHA", "PHP", "PLA", "PLP", "JSR", "RTS", "RTI"] := ⟨⟨_, rfl⟩, by decide, by decide⟩

theorem witness_MemoryChangesOnlyByStoringInstructions : (∃ t, exec (.ldaImm 0x00#8) atNop = .next t) ∧
    (∃ t, exec .aslAcc atNop = .next t) ∧ Instr.mode .aslAcc = .acc := ⟨⟨_, rfl⟩, ⟨_, rfl⟩, rfl⟩

theorem witness_PcAdvancesByLength : ∃ t, exec (.ldaAbs 0x1234#16) atNop = .next t ∧ t.pc = 0x0002#16 := ⟨_, rfl, rfl⟩

theorem witness_EveryInstructionCompletesWhereMemoryIsMapped : (∀ addr : Addr, State.reset.kindAt addr ≠ .unmapped) ∧
    State.reset.chip.jmpIndWrap ≠ none ∧ State.reset.chip.irqVector ≠ none := 
  ⟨fun _ => (by decide : RegionKind.ram ≠ .unmapped), by decide, by decide⟩

theorem witness_MappedMachineStopsOnlyAtBadOpcodes : (∀ addr : Addr, interrupted.kindAt addr ≠ .unmapped) ∧
    interrupted.chip.jmpIndWrap ≠ none ∧ interrupted.chip.irqVector ≠ none := 
  ⟨fun _ => (by decide : RegionKind.ram ≠ .unmapped), by decide, by decide⟩

/-- A pointer at 00FFH has its second byte at 0000H, in both indirect modes; pointers with the second byte unmapped, its low
byte in I/O, and with the first byte unmapped; a pointer in ROM and I/O. -/
theorem witness_IndirectEffectiveAddresses :
    ((0x00FF#16).toNat = ((0xFF#8).toNat + State.reset.x.toNat) % 256 ∧ (0x0000#16).toNat = ((0x00FF#16).toNat + 1) % 256 ∧
      (0x00FF#16).toNat = (0xFF#8).toNat ∧ HoldsByte State.reset 0x00FF#16 ∧ HoldsByte State.reset 0x0000#16) ∧
    ((0x0012#16).toNat = ((0x12#8).toNat + (mixedAt 0xFF#8).x.toNat) % 256 ∧ (0x0013#16).toNat = ((0x0012#16).toNat + 1) % 256 ∧
      (mixedAt 0xFF#8).kindAt 0x0012#16 = .unmapped) ∧
    ((0x0011#16).toNat = ((0x11#8).toNat + (mixedAt 0xFF#8).x.toNat) % 256 ∧ (0x0012#16).toNat = ((0x0011#16).toNat + 1) % 256 ∧
      (mixedAt 0xFF#8).kindAt 0x0011#16 ≠ .unmapped ∧ (mixedAt 0xFF#8).kindAt 0x0012#16 = .unmapped) ∧
    (HoldsByte (mixedAt 0xFF#8) 0x0010#16 ∧ (0x0011#16).toNat = ((0x0010#16).toNat + 1) % 256 ∧
      (mixedAt 0xFF#8).kindAt 0x0011#16 = .io) :=
  ⟨⟨rfl, rfl, rfl, .inr rfl, .inr rfl⟩, ⟨rfl, rfl, rfl⟩, ⟨rfl, rfl, by decide, rfl⟩, .inl rfl, rfl, rfl⟩

theorem witness_OperandByteByAddressKind :
    (effAddr (mixedAt 0xFF#8) (.zp 0x10#8) = .ok (0x0010#16, mixedAt 0xFF#8) ∧ HoldsByte (mixedAt 0xFF#8) 0x0010#16) ∧
    (effAddr (mixedAt 0xFF#8) (.zp 0x11#8) = .ok (0x0011#16, mixedAt 0xFF#8) ∧ (mixedAt 0xFF#8).kindAt 0x0011#16 = .io) ∧
    (effAddr (mixedAt 0xFF#8) (.zp 0x12#8) = .ok (0x0012#16, mixedAt 0xFF#8) ∧ (mixedAt 0xFF#8).kindAt 0x0012#16 = .unmapped) :=
  ⟨⟨rfl, .inl rfl⟩, ⟨rfl, rfl⟩, rfl, rfl⟩

theorem witness_UnreadableOperandFaults :
    ((Instr.ldaAbs 0x1234#16, Operand.mem (.abs 0x1234#16)) ∈ readForms 0#8 0#8 0x1234#16 ∧
      readOperand bare (.mem (.abs 0x1234#16)) = .error (.unmappedRead 0x1234#16)) ∧
    ((Instr.staIndx 0x10#8, Place.indx 0x10#8) ∈ storeForms 0x10#8 0#16 ++ modifyForms 0x10#8 0#16 ∧
      effAddr bare (.indx 0x10#8) = .error (.unmappedRead 0x0010#16)) ∧
    (jmpPointerHigh mixed 0x0010#16 = some 0x0011#16 ∧
      read16 (mixedAt 0xFF#8) 0x0011#16 0x0012#16 = .error (.unmappedRead 0x0012#16)) :=
  ⟨⟨by decide, rfl⟩, ⟨by decide, rfl⟩, rfl, rfl⟩

/-- The first, the second and the third location of a pull unmapped. -/
theorem witness_UnreadableOperandFaults_pull :
    (mixedAt 0xF1#8).kindAt (addrOf (mixedAt 0xF1#8).chip.stackPage ((mixedAt 0xF1#8).sp + 1#8)) = .unmapped ∧
    ((mixedAt 0xF0#8).kindAt (addrOf (mixedAt 0xF0#8).chip.stackPage ((mixedAt 0xF0#8).sp + 1#8)) ≠ .unmapped ∧
      (mixedAt 0xF0#8).kindAt (addrOf (mixedAt 0xF0#8).chip.stackPage ((mixedAt 0xF0#8).sp + 2#8)) = .unmapped) ∧
    ((mixedAt 0xEF#8).kindAt (addrOf (mixedAt 0xEF#8).chip.stackPage ((mixedAt 0xEF#8).sp + 1#8)) ≠ .unmapped ∧
      (mixedAt 0xEF#8).kindAt (addrOf (mixedAt 0xEF#8).chip.stackPage ((mixedAt 0xEF#8).sp + 2#8)) ≠ .unmapped ∧
      (mixedAt 0xEF#8).kindAt (addrOf (mixedAt 0xEF#8).chip.stackPage ((mixedAt 0xEF#8).sp + 3#8)) = .unmapped) :=
  ⟨rfl, ⟨by decide, rfl⟩, by decide, by decide, rfl⟩

/-- Binary mode: D = 0, and D = 1 on CPU12. -/
theorem witness_AdcBinaryResult : (Instr.adcImm 0xFF#8, Operand.imm 0xFF#8) ∈ adcForms 0xFF#8 0#8 0#16 ∧
    readOperand atNop (.imm 0xFF#8) = .ok (0xFF#8, atNop) ∧ atNop.p.d = false ∧
    { decimalState.chip with cpu := .cpu12 }.cpu = .cpu12 := ⟨by decide, rfl, rfl, rfl⟩

/-- Decimal mode set on CPU12, where SBC is binary. -/
def cpu12Decimal : State := { decimalState with chip := { decimalState.chip with cpu := .cpu12 } }

theorem witness_SbcBinaryResult_cpu12 : (Instr.sbcImm 0x01#8, Operand.imm 0x01#8) ∈ sbcForms 0x01#8 0#8 0#16 ∧
    readOperand cpu12Decimal (.imm 0x01#8) = .ok (0x01#8, cpu12Decimal) ∧ cpu12Decimal.p.d = true ∧
    cpu12Decimal.chip.cpu = .cpu12 := ⟨by decide, rfl, rfl, rfl⟩

/-- SBC is binary on CPU12 though D is 1 (R34): 19H - 0AH gives 0FH, as no decimal subtraction does. -/
theorem test_sbc_cpu12_binary : passes (exec (.sbcImm 0x0A#8) cpu12Decimal) (fun t => t.a == 0x0F#8 && t.p.c && t.p.d) = true := rfl

theorem witness_SbcBinaryResult : (Instr.sbcZp 0x10#8, Operand.mem (.zp 0x10#8)) ∈ sbcForms 0#8 0x10#8 0#16 ∧
    readOperand atNop (.mem (.zp 0x10#8)) = .ok (atNop.byteAt 0x0010#16, atNop) ∧ atNop.p.d = false := ⟨by decide, rfl, rfl⟩

theorem witness_DecimalAdcOnValidDigits : (Instr.adcImm 0x28#8, Operand.imm 0x28#8) ∈ adcForms 0x28#8 0#8 0#16 ∧
    readOperand decimalState (.imm 0x28#8) = .ok (0x28#8, decimalState) ∧ decimalState.p.d = true ∧ decimalState.chip.cpu ≠ .cpu12 ∧
    decimalState.a.toNat = 16 * 1 + 9 ∧ (0x28#8).toNat = 16 * 2 + 8 := ⟨by decide, rfl, rfl, by decide, rfl, rfl⟩

theorem witness_DecimalSbcOnValidDigits : (Instr.sbcImm 0x99#8, Operand.imm 0x99#8) ∈ sbcForms 0x99#8 0#8 0#16 ∧
    readOperand decimalState (.imm 0x99#8) = .ok (0x99#8, decimalState) ∧ decimalState.p.d = true ∧ decimalState.chip.cpu ≠ .cpu12 ∧
    decimalState.a.toNat = 16 * 1 + 9 ∧ (0x99#8).toNat = 16 * 9 + 9 := ⟨by decide, rfl, rfl, by decide, rfl, rfl⟩

/-- An invalid low digit and an invalid high digit, just above 9, in M and in A. -/
theorem witness_DecimalOnInvalidDigitsRuns :
    ((Instr.adcImm 0x0A#8, Operand.imm 0x0A#8) ∈ adcForms 0x0A#8 0#8 0#16 ++ sbcForms 0x0A#8 0#8 0#16 ∧
      readOperand decimalState (.imm 0x0A#8) = .ok (0x0A#8, decimalState) ∧ decimalState.p.d = true ∧
      decimalState.chip.cpu ≠ .cpu12 ∧ 9 < (0x0A#8).toNat % 16) ∧
    9 < (0xA0#8).toNat / 16 ∧ 9 < { decimalState with a := 0xA0#8 }.a.toNat / 16 ∧ 9 < { decimalState with a := 0x1F#8 }.a.toNat % 16 :=
  ⟨⟨by decide, rfl, rfl, by decide, by decide⟩, by decide, by decide, by decide⟩

theorem witness_CompareSetsCarryZeroNegative : (Instr.cmpImm 0x01#8, Operand.imm 0x01#8) ∈ cmpForms 0x01#8 0#8 0#16 ∧
    (Instr.cpxImm 0x01#8, Operand.imm 0x01#8) ∈ cpxForms 0x01#8 0#8 0#16 ∧
    (Instr.cpyImm 0x01#8, Operand.imm 0x01#8) ∈ cpyForms 0x01#8 0#8 0#16 ∧
    readOperand atNop (.imm 0x01#8) = .ok (0x01#8, atNop) := ⟨by decide, by decide, by decide, rfl⟩

/-- The forms of the statements about memory operands at 10H (ROM), 11H (I/O), 12H (unmapped) and 13H (RAM). -/
theorem witness_places : ∀ aa : Byte, effAddr (mixedAt 0xFF#8) (.zp aa) = .ok (zeroPage aa, mixedAt 0xFF#8) ∧
    (mixedAt 0xFF#8).kindAt (zeroPage 0x10#8) = .rom ∧ (mixedAt 0xFF#8).kindAt (zeroPage 0x11#8) = .io ∧
    (mixedAt 0xFF#8).kindAt (zeroPage 0x12#8) = .unmapped ∧ (mixedAt 0xFF#8).kindAt (zeroPage 0x13#8) = .ram :=
  fun _ => ⟨rfl, rfl, rfl, rfl, rfl⟩

/-- Every zero-page form of the storing and read-modify-write instructions has such a place. -/
theorem witness_zero_page_forms (aa : Byte) :
    (Instr.incZp aa, Place.zp aa) ∈ incForms aa 0#16 ∧ (Instr.decZp aa, Place.zp aa) ∈ decForms aa 0#16 ∧
    (Instr.aslZp aa, Place.zp aa) ∈ aslForms aa 0#16 ∧ (Instr.lsrZp aa, Place.zp aa) ∈ lsrForms aa 0#16 ∧
    (Instr.rolZp aa, Place.zp aa) ∈ rolForms aa 0#16 ∧ (Instr.rorZp aa, Place.zp aa) ∈ rorForms aa 0#16 ∧
    (Instr.staZp aa, Place.zp aa) ∈ staForms aa 0#16 ∧ (Instr.stxZp aa, Place.zp aa) ∈ stxForms aa 0#16 ∧
    (Instr.styZp aa, Place.zp aa) ∈ styForms aa 0#16 := by
  simp [incForms, decForms, aslForms, lsrForms, rolForms, rorForms, staForms, stxForms, styForms]

theorem witness_IncrementDecrementMemory : (Instr.incZp 0x13#8, Place.zp 0x13#8) ∈ incForms 0x13#8 0#16 ∧
    (Instr.decZp 0x12#8, Place.zp 0x12#8) ∈ decForms 0x12#8 0#16 ∧
    effAddr (mixedAt 0xFF#8) (.zp 0x13#8) = .ok (0x0013#16, mixedAt 0xFF#8) ∧ (mixedAt 0xFF#8).kindAt 0x0013#16 ≠ .unmapped ∧
    effAddr (mixedAt 0xFF#8) (.zp 0x12#8) = .ok (0x0012#16, mixedAt 0xFF#8) ∧ (mixedAt 0xFF#8).kindAt 0x0012#16 = .unmapped :=
  ⟨by decide, by decide, rfl, by decide, rfl, rfl⟩

theorem witness_AndOraEorResult : (Instr.andImm 0x0F#8, Operand.imm 0x0F#8) ∈ andForms 0x0F#8 0#8 0#16 ∧
    (Instr.oraImm 0x0F#8, Operand.imm 0x0F#8) ∈ oraForms 0x0F#8 0#8 0#16 ∧
    (Instr.eorImm 0x0F#8, Operand.imm 0x0F#8) ∈ eorForms 0x0F#8 0#8 0#16 ∧
    readOperand atNop (.imm 0x0F#8) = .ok (0x0F#8, atNop) := ⟨by decide, by decide, by decide, rfl⟩

theorem witness_BitTestFlags : (Instr.bitAbs 0xFFFF#16, Operand.mem (.abs 0xFFFF#16)) ∈ bitForms 0#8 0xFFFF#16 ∧
    readOperand atNop (.mem (.abs 0xFFFF#16)) = .ok (0xEA#8, atNop) := ⟨by decide, rfl⟩

theorem witness_ShiftResult : (Instr.aslZp 0x13#8, Place.zp 0x13#8) ∈ aslForms 0x13#8 0#16 ∧
    (Instr.lsrZp 0x12#8, Place.zp 0x12#8) ∈ lsrForms 0x12#8 0#16 ∧
    effAddr (mixedAt 0xFF#8) (.zp 0x13#8) = .ok (0x0013#16, mixedAt 0xFF#8) ∧ (mixedAt 0xFF#8).kindAt 0x0013#16 = .ram ∧
    effAddr (mixedAt 0xFF#8) (.zp 0x12#8) = .ok (0x0012#16, mixedAt 0xFF#8) ∧ (mixedAt 0xFF#8).kindAt 0x0012#16 = .unmapped :=
  ⟨by decide, by decide, rfl, rfl, rfl, rfl⟩

theorem witness_RotateResult : (Instr.rolZp 0x10#8, Place.zp 0x10#8) ∈ rolForms 0x10#8 0#16 ∧
    (Instr.rorZp 0x12#8, Place.zp 0x12#8) ∈ rorForms 0x12#8 0#16 ∧
    effAddr (mixedAt 0xFF#8) (.zp 0x10#8) = .ok (0x0010#16, mixedAt 0xFF#8) ∧ (mixedAt 0xFF#8).kindAt 0x0010#16 = .rom ∧
    effAddr (mixedAt 0xFF#8) (.zp 0x12#8) = .ok (0x0012#16, mixedAt 0xFF#8) ∧ (mixedAt 0xFF#8).kindAt 0x0012#16 = .unmapped :=
  ⟨by decide, by decide, rfl, rfl, rfl, rfl⟩

/-- A run of ROL A instructions. -/
def rolRun : Nat → State
  | 0 => atNop
  | k + 1 => stateOf (exec .rolAcc (rolRun k))

theorem witness_RorUndoesRol : ∀ k < 9, exec .rolAcc (rolRun k) = .next (rolRun (k + 1)) := fun _ _ => rfl

theorem witness_LoadResult : readOperand atNop (.imm 0x80#8) = .ok (0x80#8, atNop) ∧
    (Instr.ldaImm 0x80#8, Operand.imm 0x80#8) ∈ ldaForms 0x80#8 0#8 0#16 ∧
    (Instr.ldxImm 0x80#8, Operand.imm 0x80#8) ∈ ldxForms 0x80#8 0#8 0#16 ∧
    (Instr.ldyImm 0x80#8, Operand.imm 0x80#8) ∈ ldyForms 0x80#8 0#8 0#16 := ⟨rfl, by decide, by decide, by decide⟩

theorem witness_StoreResult : (Instr.staZp 0x13#8, Place.zp 0x13#8) ∈ staForms 0x13#8 0#16 ∧
    (Instr.stxZp 0x12#8, Place.zp 0x12#8) ∈ stxForms 0x12#8 0#16 ∧ (Instr.styZp 0x11#8, Place.zp 0x11#8) ∈ styForms 0x11#8 0#16 ∧
    effAddr (mixedAt 0xFF#8) (.zp 0x13#8) = .ok (0x0013#16, mixedAt 0xFF#8) ∧ (mixedAt 0xFF#8).kindAt 0x0013#16 = .ram ∧
    effAddr (mixedAt 0xFF#8) (.zp 0x12#8) = .ok (0x0012#16, mixedAt 0xFF#8) ∧ (mixedAt 0xFF#8).kindAt 0x0012#16 = .unmapped :=
  ⟨by decide, by decide, by decide, rfl, rfl, rfl, rfl⟩

theorem witness_BitClearSetInvert : (Instr.clr7 0x13#8, 7) ∈ clrForms 0x13#8 ∧ (Instr.set0 0x13#8, 0) ∈ setForms 0x13#8 ∧
    (Instr.inv7 0x13#8, 7) ∈ invForms 0x13#8 ∧ (0x0013#16).toNat = (0x13#8).toNat ∧ (mixedAt 0xFF#8).kindAt 0x0013#16 = .ram ∧
    (Instr.clr0 0x12#8, 0) ∈ clrForms 0x12#8 ∧ (0x0012#16).toNat = (0x12#8).toNat ∧ (mixedAt 0xFF#8).kindAt 0x0012#16 = .unmapped :=
  ⟨by decide, by decide, by decide, rfl, rfl, by decide, rfl, rfl⟩

theorem witness_BitTestInstruction : (Instr.tst7 0x10#8, 7) ∈ tstForms 0x10#8 ∧ (0x0010#16).toNat = (0x10#8).toNat ∧
    HoldsByte (mixedAt 0xFF#8) 0x0010#16 ∧ (Instr.tst0 0x11#8, 0) ∈ tstForms 0x11#8 ∧ (0x0011#16).toNat = (0x11#8).toNat ∧
    (mixedAt 0xFF#8).kindAt 0x0011#16 = .io ∧ (Instr.tst0 0x12#8, 0) ∈ tstForms 0x12#8 ∧ (0x0012#16).toNat = (0x12#8).toNat ∧
    (mixedAt 0xFF#8).kindAt 0x0012#16 = .unmapped := ⟨by decide, rfl, .inl rfl, by decide, rfl, rfl, by decide, rfl, rfl⟩

/-- A condition that holds and one that does not. -/
theorem witness_BranchTarget : (Instr.bcc 0x80#8, true) ∈ branchForms 0x80#8 atNop.p ∧
    (Instr.bcs 0x7F#8, false) ∈ branchForms 0x7F#8 atNop.p := ⟨by decide, by decide⟩

/-- A pointer just before, and at, the end of a page, for each value of JMP_IND_WRAP. -/
theorem witness_JumpTarget :
    ((0x12FE#16).toNat % 256 ≠ 255 ∧ (0x12FF#16).toNat = ((0x12FE#16).toNat + 1) % 65536 ∧ HoldsByte State.reset 0x12FE#16 ∧
      HoldsByte State.reset 0x12FF#16) ∧
    (State.reset.chip.jmpIndWrap = some .carry ∧ (0x0000#16).toNat = ((0xFFFF#16).toNat + 1) % 65536 ∧
      HoldsByte State.reset 0xFFFF#16 ∧ HoldsByte State.reset 0x0000#16) ∧
    ((0x12FF#16).toNat % 256 = 255 ∧ { State.reset.chip with jmpIndWrap := some .nocarry }.jmpIndWrap = some .nocarry ∧
      (0x1200#16).toNat = (0x12FF#16).toNat - 255) ∧
    { State.reset.chip with jmpIndWrap := none }.jmpIndWrap = none :=
  ⟨⟨by decide, rfl, .inr rfl, .inr rfl⟩, ⟨rfl, rfl, .inr rfl, .inr rfl⟩, ⟨rfl, rfl, rfl⟩, rfl⟩

/-- A pointer in ROM and I/O, one whose second byte alone is unmapped, and one whose first byte is. -/
theorem witness_JumpTarget_kinds :
    (HoldsByte (mixedAt 0xFF#8) 0x0010#16 ∧ (0x0011#16).toNat = ((0x0010#16).toNat + 1) % 65536 ∧
      (mixedAt 0xFF#8).kindAt 0x0011#16 = .io) ∧
    ((mixedAt 0xFF#8).kindAt 0x0011#16 ≠ .unmapped ∧ (0x0012#16).toNat = ((0x0011#16).toNat + 1) % 65536 ∧
      (mixedAt 0xFF#8).kindAt 0x0012#16 = .unmapped) ∧
    (0x0012#16).toNat % 256 ≠ 255 ∧ (0x0011#16).toNat % 256 ≠ 255 ∧ (0x0010#16).toNat % 256 ≠ 255 :=
  ⟨⟨.inl rfl, rfl, rfl⟩, ⟨by decide, rfl, rfl⟩, by decide, by decide, by decide⟩

/-- SP = 00H: the second byte is pushed at SP = FFH; SP = F2H and F3H: the first and the second location unmapped. -/
theorem witness_SubroutineCallPushesReturnAddress :
    ((mixedAt 0x00#8).kindAt (addrOf (mixedAt 0x00#8).chip.stackPage (mixedAt 0x00#8).sp) ≠ .unmapped ∧
      (mixedAt 0x00#8).kindAt (addrOf (mixedAt 0x00#8).chip.stackPage ((mixedAt 0x00#8).sp - 1#8)) ≠ .unmapped) ∧
    (mixedAt 0xF2#8).kindAt (addrOf (mixedAt 0xF2#8).chip.stackPage (mixedAt 0xF2#8).sp) = .unmapped ∧
    ((mixedAt 0xF3#8).kindAt (addrOf (mixedAt 0xF3#8).chip.stackPage (mixedAt 0xF3#8).sp) ≠ .unmapped ∧
      (mixedAt 0xF3#8).kindAt (addrOf (mixedAt 0xF3#8).chip.stackPage ((mixedAt 0xF3#8).sp - 1#8)) = .unmapped) :=
  ⟨⟨by decide, by decide⟩, rfl, by decide, rfl⟩

theorem witness_ReturnsPullPc : ∃ s s1 s2 s3 b lo hi, pull s1 = .ok (lo, s2) ∧ pull s2 = .ok (hi, s3) ∧ pull s = .ok (b, s1) :=
  ⟨mixedAt 0xFE#8, mixedAt 0xFF#8, mixedAt 0x00#8, mixedAt 0x01#8, _, _, _, rfl, rfl, rfl⟩

theorem witness_CallThenReturnResumes : ∃ s t u : State, s.kindAt (addrOf s.chip.stackPage s.sp) = .ram ∧
    s.kindAt (addrOf s.chip.stackPage (s.sp - 1#8)) = .ram ∧ exec (.jsr 0x1234#16) s = .next t ∧ u.sp = t.sp ∧ u.chip = t.chip ∧
    (∀ b ∈ [addrOf s.chip.stackPage s.sp, addrOf s.chip.stackPage (s.sp - 1#8)], u.byteAt b = t.byteAt b) :=
  ⟨mixedAt 0x00#8, stateOf (exec (.jsr 0x1234#16) (mixedAt 0x00#8)), stateOf (exec (.jsr 0x1234#16) (mixedAt 0x00#8)), rfl, rfl,
    rfl, rfl, rfl, fun _ _ => rfl⟩

/-- SP = F2H and 00H for a push; SP = F1H, F0H and EFH for a pull: unmapped, I/O, ROM. -/
theorem witness_PushAndPull :
    (mixedAt 0xF2#8).kindAt (addrOf (mixedAt 0xF2#8).chip.stackPage (mixedAt 0xF2#8).sp) = .unmapped ∧
    (mixedAt 0x00#8).kindAt (addrOf (mixedAt 0x00#8).chip.stackPage (mixedAt 0x00#8).sp) ≠ .unmapped ∧
    (mixedAt 0xF1#8).kindAt (addrOf (mixedAt 0xF1#8).chip.stackPage ((mixedAt 0xF1#8).sp + 1#8)) = .unmapped ∧
    (mixedAt 0xF0#8).kindAt (addrOf (mixedAt 0xF0#8).chip.stackPage ((mixedAt 0xF0#8).sp + 1#8)) = .io ∧
    HoldsByte (mixedAt 0xEF#8) (addrOf (mixedAt 0xEF#8).chip.stackPage ((mixedAt 0xEF#8).sp + 1#8)) :=
  ⟨rfl, by decide, rfl, rfl, .inl rfl⟩

theorem witness_PushAccumulatorAndStatus :
    (mixedAt 0xF2#8).kindAt (addrOf (mixedAt 0xF2#8).chip.stackPage (mixedAt 0xF2#8).sp) = .unmapped ∧
    (mixedAt 0x00#8).kindAt (addrOf (mixedAt 0x00#8).chip.stackPage (mixedAt 0x00#8).sp) ≠ .unmapped := ⟨rfl, by decide⟩

theorem witness_PullAccumulatorAndStatus : ∃ b, pull (mixedAt 0xFF#8) = .ok (b, mixedAt 0x00#8) := ⟨_, rfl⟩

theorem witness_PulledValuesAreThePushedOnes : ∃ s t u : State, s.kindAt (addrOf s.chip.stackPage s.sp) = .ram ∧ u.sp = t.sp ∧
    u.chip = t.chip ∧ u.byteAt (addrOf s.chip.stackPage s.sp) = t.byteAt (addrOf s.chip.stackPage s.sp) ∧ exec .php s = .next t :=
  ⟨mixedAt 0x00#8, stateOf (exec .php (mixedAt 0x00#8)), stateOf (exec .php (mixedAt 0x00#8)), rfl, rfl, rfl, rfl, rfl⟩

theorem witness_PulledValuesAreThePushedOnes_pha : ∃ s t u : State, s.kindAt (addrOf s.chip.stackPage s.sp) = .ram ∧ u.sp = t.sp ∧
    u.chip = t.chip ∧ u.byteAt (addrOf s.chip.stackPage s.sp) = t.byteAt (addrOf s.chip.stackPage s.sp) ∧ exec .pha s = .next t :=
  ⟨mixedAt 0x00#8, stateOf (exec .pha (mixedAt 0x00#8)), stateOf (exec .pha (mixedAt 0x00#8)), rfl, rfl, rfl, rfl, rfl⟩

/-- `JMP 0200H` at 0200H. -/
def atEnd : State := machine .t65b02 .std 0x0200#16 [(0x0200, 0x4C#8), (0x0201, 0x00#8), (0x0202, 0x02#8)]

theorem witness_StepAtEndOfRunChangesNothing : Ended atEnd ∧ ∀ k < 3, HoldsByte atEnd (atEnd.pc + BitVec.ofNat 16 k) :=
  ⟨⟨.inr rfl, atEnd, rfl⟩, fun _ _ => .inr rfl⟩

theorem witness_BranchCycleCounts : (Instr.bcc 0x00#8, true) ∈ branchForms 0x00#8 atNop.p ∧
    ((0x0001#16).toNat : Int) = ((atNop.pc.toNat : Int) + 2 + (0x00#8).toInt) % 65536 ∧ atNop.chip.cpu = .t65b02 ∧
    interruptedLow.chip.cpu = .t65b02 ∧ atUnavailable.chip.cpu ≠ .t65b02 := ⟨by decide, by decide, rfl, rfl, by decide⟩

/-- The clauses of a step on draws: an interrupt, and an operand byte in I/O. -/
theorem witness_DrawsNeverRunBackwards_step : (∃ t : State, step interrupted = .next t ∧ interruptTaken interrupted = true) ∧
    (∃ t s1 : State, step loadingIo = .next t ∧ interruptTaken loadingIo = false ∧
      fetch (nextInput loadingIo) = .ok (.ldaImm (Config.freeByte 0), s1) ∧ 1 < (Instr.ldaImm (Config.freeByte 0)).length ∧
      loadingIo.kindAt (loadingIo.pc + BitVec.ofNat 16 1) = .io) :=
  ⟨⟨stateOf (step interrupted), rfl, rfl⟩, stateOf (step loadingIo), { loadingIo with draws := 1 }, rfl, rfl, rfl, by decide, rfl⟩

/-- A machine with I/O at every address. -/
def allIo : State := { mixedAt 0xFF#8 with chip := { Chip.default with elsewhere := .io } }

/-- The clauses of an instruction on draws: PHP, decimal mode, pulls, pointers and an operand in I/O. -/
theorem witness_DrawsNeverRunBackwards : (mixedAt 0xFF#8).kindAt 0x0011#16 = .io ∧
    (∃ t, exec .php (mixedAt 0xFF#8) = .next t) ∧
    ((∃ t, exec (.adcImm 0x28#8) decimalState = .next t) ∧ decimalState.p.d = true ∧ decimalState.chip.cpu ≠ .cpu12 ∧
      (Instr.adcImm 0x28#8, Operand.imm 0x28#8) ∈ adcForms 0x28#8 0#8 0#16 ++ sbcForms 0x28#8 0#8 0#16) ∧
    ((∃ t, exec .pla (mixedAt 0xF0#8) = .next t) ∧ Instr.mnemonic .pla ∈ ["PLA", "PLP", "RTS", "RTI"] ∧
      (mixedAt 0xF0#8).kindAt (addrOf (mixedAt 0xF0#8).chip.stackPage ((mixedAt 0xF0#8).sp + 1#8)) = .io) ∧
    ((∃ t, exec .rts (mixedAt 0xEF#8) = .next t) ∧ Instr.mnemonic .rts ∈ ["RTS", "RTI"] ∧
      (mixedAt 0xEF#8).kindAt (addrOf (mixedAt 0xEF#8).chip.stackPage ((mixedAt 0xEF#8).sp + 2#8)) = .io) ∧
    ((∃ t, exec .rti (mixedAt 0xEE#8) = .next t) ∧ Instr.mnemonic .rti = "RTI" ∧
      (mixedAt 0xEE#8).kindAt (addrOf (mixedAt 0xEE#8).chip.stackPage ((mixedAt 0xEE#8).sp + 3#8)) = .io) ∧
    ((∃ t, exec (.jmpInd 0x0010#16) (mixedAt 0xFF#8) = .next t) ∧ jmpPointerHigh mixed 0x0010#16 = some 0x0011#16) ∧
    ((∃ t, exec (.ldaIndy 0x10#8) allIo = .next t) ∧
      (Instr.ldaIndy 0x10#8, Operand.mem (.indy 0x10#8)) ∈ readForms 0#8 0x10#8 0#16 ∧
      allIo.kindAt (zeroPage (0x10#8 + 1#8)) = .io) ∧
    ((∃ t, exec (.ldaZp 0x11#8) (mixedAt 0xFF#8) = .next t) ∧
      effAddr (mixedAt 0xFF#8) (.zp 0x11#8) = .ok (0x0011#16, mixedAt 0xFF#8)) :=
  ⟨rfl, ⟨_, rfl⟩, ⟨⟨_, rfl⟩, rfl, by decide, by decide⟩, ⟨⟨_, rfl⟩, by decide, rfl⟩, ⟨⟨_, rfl⟩, by decide, rfl⟩,
    ⟨⟨_, rfl⟩, rfl, rfl⟩, ⟨⟨_, rfl⟩, rfl⟩, ⟨⟨_, rfl⟩, by decide, rfl⟩, ⟨_, rfl⟩, rfl⟩

end Sys2Proof.Tests
end

namespace Sys2Proof.Laws

open Sys2Proof.Machine Sys2Proof.Claims

/-! ## The rows of the one-byte instructions (R86) -/

theorem has_every_iff (cpu : CpuType) : Availability.every.has cpu = true ↔ cpu ∈ allTypes := by
  cases cpu <;> decide

theorem has_full_iff (cpu : CpuType) : Availability.full.has cpu = true ↔ cpu ∈ [CpuType.t65b02, .t65n02] := by
  cases cpu <;> decide

/-- A fixed count that all five cycle columns share is the count wherever the CPU type has the form (R245, R246). -/
theorem cycles_of_fixed_cells {i : Instr} {n : Nat} (h65b02 : Instr.cell65b02 i = ⟨n, .fixed⟩)
    (hothers : Instr.cellOthers i = some ⟨n, .fixed⟩) (s : State) :
    cycles i s = if i.wellFormed s.chip.cpu then some n else none := by
  have hcell : cycleCell s.chip.cpu i = if i.wellFormed s.chip.cpu then some ⟨n, .fixed⟩ else none := by
    cases hcpu : s.chip.cpu <;> simp [cycleCell, h65b02, hothers]
  by_cases hwf : i.wellFormed s.chip.cpu <;> simp [cycles, hcell, hwf, extraCycles]

/-- A one-byte row, from the entries of its instruction in the model's tables. -/
theorem oneByteRow_of_entries {i : Instr} {std sun : Byte} {types : List CpuType} (hop : i.opcodes = (std, sun))
    (hbytes : i.operandBytes = []) (htypes : ∀ cpu, i.availability.has cpu = true ↔ cpu ∈ types)
    (h65b02 : Instr.cell65b02 i = ⟨2, .fixed⟩) (hothers : Instr.cellOthers i = some ⟨2, .fixed⟩) :
    OneByteRow i std sun types := by
  refine ⟨?std, ?sun, htypes, fun s => ?cycles⟩
  case std => simp [encode, hop, hbytes]
  case sun => simp [encode, hop, hbytes]
  case cycles => simp only [cycles_of_fixed_cells h65b02 hothers, Instr.wellFormed, htypes]

/-! ## What the flag instructions and NOP do -/

section
variable (s : State)

theorem exec_clc : exec .clc s = .next { s with p := { s.p with c := false }, pc := s.pc + 1#16 } :=
  impliedOp_next clearC s

theorem exec_cld : exec .cld s = .next { s with p := { s.p with d := false }, pc := s.pc + 1#16 } :=
  impliedOp_next clearD s

theorem exec_cli : exec .cli s = .next { s with p := { s.p with i := false }, pc := s.pc + 1#16 } :=
  impliedOp_next clearI s

theorem exec_clv : exec .clv s = .next { s with p := { s.p with v := false }, pc := s.pc + 1#16 } :=
  impliedOp_next clearV s

theorem exec_sec : exec .sec s = .next { s with p := { s.p with c := true }, pc := s.pc + 1#16 } :=
  impliedOp_next setC s

theorem exec_sed : exec .sed s = .next { s with p := { s.p with d := true }, pc := s.pc + 1#16 } :=
  impliedOp_next setD s

theorem exec_sei : exec .sei s = .next { s with p := { s.p with i := true }, pc := s.pc + 1#16 } :=
  impliedOp_next setI s

theorem exec_nop : exec .nop s = .next { s with pc := s.pc + 1#16 } :=
  impliedOp_next (fun s => s) s

end

/-- Settles O46: the table entries of each row, then the effect of each instruction. -/
theorem flagInstructionsAndNop : Obligations.FlagInstructionsAndNop := by
  refine ⟨?clc, ?cld, ?cli, ?clv, ?nop, ?sec, ?sed, ?sei, fun s => ?effects⟩
  case clc => exact oneByteRow_of_entries rfl rfl has_every_iff rfl rfl
  case cld => exact oneByteRow_of_entries rfl rfl has_full_iff rfl rfl
  case cli => exact oneByteRow_of_entries rfl rfl has_every_iff rfl rfl
  case clv => exact oneByteRow_of_entries rfl rfl has_every_iff rfl rfl
  case nop => exact oneByteRow_of_entries rfl rfl has_every_iff rfl rfl
  case sec => exact oneByteRow_of_entries rfl rfl has_every_iff rfl rfl
  case sed => exact oneByteRow_of_entries rfl rfl has_full_iff rfl rfl
  case sei => exact oneByteRow_of_entries rfl rfl has_every_iff rfl rfl
  case effects =>
    exact ⟨exec_clc s, exec_cld s, exec_cli s, exec_clv s, exec_sec s, exec_sed s, exec_sei s, exec_nop s⟩

end Sys2Proof.Laws

namespace Sys2Proof.Laws

open Sys2Proof.Machine Sys2Proof.Claims

/-! ## INX, INY, DEX and DEY (R141, R142, R146, R147) -/

/-- The model's flag bits are the comparisons of R27: bit 7 is set exactly from 80H on. -/
theorem negativeAndZero_setNZ (r : Byte) (p : Flags) : NegativeAndZero (setNZ r p) r := by
  have hbit7 : r.getLsbD 7 = decide (128 ≤ r.toNat) := BitVec.msb_eq_decide r
  have hzero : r = 0#8 ↔ r.toNat = 0 := BitVec.toNat_inj.symm
  rw [NegativeAndZero, setNZ_n, setNZ_z, hbit7, decide_eq_true_iff, decide_eq_true_iff]
  exact ⟨Iff.rfl, hzero⟩

theorem toNat_increment (r : Byte) : (r + 1#8).toNat = (r.toNat + 1) % 256 := BitVec.toNat_add r 1#8

theorem toNat_decrement (r : Byte) : (r - 1#8).toNat = (r.toNat + 255) % 256 := by
  rw [BitVec.toNat_sub, Nat.add_comm]; rfl

section
variable (s : State)

theorem exec_inx :
    exec .inx s = .next { s with x := s.x + 1#8, p := setNZ (s.x + 1#8) s.p, pc := s.pc + 1#16 } :=
  impliedOp_next incrementX s

theorem exec_iny :
    exec .iny s = .next { s with y := s.y + 1#8, p := setNZ (s.y + 1#8) s.p, pc := s.pc + 1#16 } :=
  impliedOp_next incrementY s

theorem exec_dex :
    exec .dex s = .next { s with x := s.x - 1#8, p := setNZ (s.x - 1#8) s.p, pc := s.pc + 1#16 } :=
  impliedOp_next decrementX s

theorem exec_dey :
    exec .dey s = .next { s with y := s.y - 1#8, p := setNZ (s.y - 1#8) s.p, pc := s.pc + 1#16 } :=
  impliedOp_next decrementY s

end

/-- Settles O37: the table entries of each row, then for each instruction its new value, its flags and its frame. -/
theorem incrementDecrementIndexRegisters : Obligations.IncrementDecrementIndexRegisters := by
  refine ⟨?rowInx, ?rowIny, ?rowDex, ?rowDey, fun s => ⟨?inx, ?iny, ?dex, ?dey⟩⟩
  case rowInx => exact oneByteRow_of_entries rfl rfl has_every_iff rfl rfl
  case rowIny => exact oneByteRow_of_entries rfl rfl has_full_iff rfl rfl
  case rowDex => exact oneByteRow_of_entries rfl rfl has_every_iff rfl rfl
  case rowDey => exact oneByteRow_of_entries rfl rfl has_full_iff rfl rfl
  case inx => exact ⟨_, exec_inx s, toNat_increment s.x, negativeAndZero_setNZ _ s.p, rfl⟩
  case iny => exact ⟨_, exec_iny s, toNat_increment s.y, negativeAndZero_setNZ _ s.p, rfl⟩
  case dex => exact ⟨_, exec_dex s, toNat_decrement s.x, negativeAndZero_setNZ _ s.p, rfl⟩
  case dey => exact ⟨_, exec_dey s, toNat_decrement s.y, negativeAndZero_setNZ _ s.p, rfl⟩

end Sys2Proof.Laws

namespace Sys2Proof.Laws

open Sys2Proof.Machine Sys2Proof.Claims

/-! ## The register transfers (R172, R173, R175 to R178) -/

theorem has_allBut65s02_iff (cpu : CpuType) :
    Availability.allBut65s02.has cpu = true ↔ cpu ∈ [CpuType.t65b02, .t65n02, .t65r02, .cpu12] := by
  cases cpu <;> decide

section
variable (s : State)

theorem exec_tax : exec .tax s = .next { s with x := s.a, p := setNZ s.a s.p, pc := s.pc + 1#16 } :=
  impliedOp_next transferAX s

theorem exec_tay : exec .tay s = .next { s with y := s.a, p := setNZ s.a s.p, pc := s.pc + 1#16 } :=
  impliedOp_next transferAY s

theorem exec_tsx : exec .tsx s = .next { s with x := s.sp, p := setNZ s.sp s.p, pc := s.pc + 1#16 } :=
  impliedOp_next transferSX s

theorem exec_txa : exec .txa s = .next { s with a := s.x, p := setNZ s.x s.p, pc := s.pc + 1#16 } :=
  impliedOp_next transferXA s

/-- TXS is the one transfer that leaves the flags alone (R177). -/
theorem exec_txs : exec .txs s = .next { s with sp := s.x, pc := s.pc + 1#16 } :=
  impliedOp_next transferXS s

theorem exec_tya : exec .tya s = .next { s with a := s.y, p := setNZ s.y s.p, pc := s.pc + 1#16 } :=
  impliedOp_next transferYA s

end

/-- Settles O45: the table entries of each row, then for each transfer its next state, whose N and Z are those of the
copied register; TXS is its next state alone. -/
theorem transferResult : Obligations.TransferResult := by
  refine ⟨?rowTax, ?rowTay, ?rowTsx, ?rowTxa, ?rowTxs, ?rowTya, fun s => ⟨?tax, ?tay, ?tsx, ?txa, ?tya, ?txs⟩⟩
  case rowTax => exact oneByteRow_of_entries rfl rfl has_allBut65s02_iff rfl rfl
  case rowTay => exact oneByteRow_of_entries rfl rfl has_full_iff rfl rfl
  case rowTsx => exact oneByteRow_of_entries rfl rfl has_every_iff rfl rfl
  case rowTxa => exact oneByteRow_of_entries rfl rfl has_allBut65s02_iff rfl rfl
  case rowTxs => exact oneByteRow_of_entries rfl rfl has_every_iff rfl rfl
  case rowTya => exact oneByteRow_of_entries rfl rfl has_full_iff rfl rfl
  case tax => exact ⟨_, exec_tax s, negativeAndZero_setNZ s.a s.p, rfl⟩
  case tay => exact ⟨_, exec_tay s, negativeAndZero_setNZ s.a s.p, rfl⟩
  case tsx => exact ⟨_, exec_tsx s, negativeAndZero_setNZ s.sp s.p, rfl⟩
  case txa => exact ⟨_, exec_txa s, negativeAndZero_setNZ s.x s.p, rfl⟩
  case tya => exact ⟨_, exec_tya s, negativeAndZero_setNZ s.y s.p, rfl⟩
  case txs => exact exec_txs s

end Sys2Proof.Laws

namespace Sys2Proof.Laws

open Sys2Proof.Machine Sys2Proof.Claims

/-! ## The opcode table and its two maps (R81 to R88) -/

/-- The opcode byte of an instruction in a map (R85, R86). -/
def opcodeOf (map : OpMap) (i : Instr) : Byte :=
  match map with
  | .std => i.opcodes.1
  | .sun => i.opcodes.2

theorem encode_eq (map : OpMap) (i : Instr) : encode map i = opcodeOf map i :: i.operandBytes := by
  cases map <;> rfl

@[simp] theorem encode_head? (map : OpMap) (i : Instr) : (encode map i).head? = some (opcodeOf map i) := by
  simp [encode_eq]

/-- A form with these operand bytes is this instruction; a 16-bit operand has its low byte first (R81, R83). -/
inductive Selects : Form → Instr → List Byte → Prop
  | one (i : Instr) : Selects (.one i) i []
  | two (f : Byte → Instr) (b : Byte) : Selects (.two f) (f b) [b]
  | three (f : Addr → Instr) (a : Addr) : Selects (.three f) (f a) [loByte a, hiByte a]

theorem loByte_addrOf (hi lo : Byte) : loByte (addrOf hi lo) = lo := by
  apply BitVec.eq_of_toNat_eq
  rw [loByte_toNat, addrOf_toNat]
  omega

theorem hiByte_addrOf (hi lo : Byte) : hiByte (addrOf hi lo) = hi := by
  apply BitVec.eq_of_toNat_eq
  rw [hiByte_toNat, addrOf_toNat]
  omega

theorem selects_three_addrOf (f : Addr → Instr) (hi lo : Byte) :
    Selects (.three f) (f (addrOf hi lo)) [lo, hi] := by
  simpa only [loByte_addrOf, hiByte_addrOf] using Selects.three f (addrOf hi lo)

/-- The row is that of the instruction: what the model's tables say of one they say of the other (R86). -/
structure RowOf (r : Row) (i : Instr) (operands : List Byte) : Prop where
  opcodes : i.opcodes = (r.std, r.sun)
  operands : i.operandBytes = operands
  availability : i.availability = r.form.sample.availability
  mnemonic : i.mnemonic = r.form.sample.mnemonic
  mode : i.mode = r.form.sample.mode

theorem rowOf_of_selects {r : Row} {i : Instr} {operands : List Byte} (hr : r ∈ opcodeRows)
    (hi : Selects r.form i operands) : RowOf r i operands := by
  fin_cases hr <;> cases hi <;> exact ⟨rfl, rfl, rfl, rfl, rfl⟩

/-- The rows of the table stand in the order of the constructors. -/
theorem row_at_ctorIdx (i : Instr) :
    ∃ r, opcodeRows[i.ctorIdx]? = some r ∧ Selects r.form i i.operandBytes := by
  cases i <;> exact ⟨_, rfl, by constructor⟩

theorem exists_row (i : Instr) : ∃ r ∈ opcodeRows, Selects r.form i i.operandBytes := by
  obtain ⟨r, hr, hsel⟩ := row_at_ctorIdx i
  exact ⟨r, List.mem_of_getElem? hr, hsel⟩

theorem RowOf.opcodeOf_eq {r : Row} {i : Instr} {operands : List Byte} (h : RowOf r i operands) (map : OpMap) :
    opcodeOf map i = r.opcode map := by
  cases map <;> simp [opcodeOf, h.opcodes, Row.opcode]

/-- The assigned bytes of a map, in the order of the table. -/
def opcodeBytes (map : OpMap) : List Nat := opcodeRows.map (fun r => (r.opcode map).toNat)

/-- The unassigned bytes of a map (R88). -/
def unassigned : OpMap → List Nat
  | .std => unassignedStd
  | .sun => unassignedSun

/-- The 182 assigned and the 74 unassigned bytes of a map are the 256 bytes, each once. -/
theorem opcodeBytes_append_unassigned_perm (map : OpMap) :
    (opcodeBytes map ++ unassigned map).Perm (List.range 256) := by
  have hsorted : (opcodeBytes map ++ unassigned map).insertionSort (· ≤ ·) = List.range 256 := by
    cases map <;> decide +kernel
  exact hsorted ▸ (List.perm_insertionSort (· ≤ ·) _).symm

theorem opcodeBytes_append_unassigned_nodup (map : OpMap) : (opcodeBytes map ++ unassigned map).Nodup :=
  (opcodeBytes_append_unassigned_perm map).nodup_iff.2 List.nodup_range

theorem mem_unassigned_iff (map : OpMap) (b : Byte) : b.toNat ∈ unassigned map ↔ b.toNat ∉ opcodeBytes map := by
  have hmem : b.toNat ∈ opcodeBytes map ++ unassigned map :=
    (opcodeBytes_append_unassigned_perm map).mem_iff.2 (List.mem_range.2 b.isLt)
  have hdisjoint : List.Disjoint (opcodeBytes map) (unassigned map) :=
    (List.nodup_append'.1 (opcodeBytes_append_unassigned_nodup map)).2.2
  exact ⟨fun hu ho => hdisjoint ho hu, fun ho => (List.mem_append.1 hmem).resolve_left ho⟩

/-- Two rows with one opcode byte in a map are the same row. -/
theorem row_eq_of_opcode_eq {map : OpMap} {r r' : Row} (hr : r ∈ opcodeRows) (hr' : r' ∈ opcodeRows)
    (h : r.opcode map = r'.opcode map) : r = r' :=
  List.inj_on_of_nodup_map (List.nodup_append'.1 (opcodeBytes_append_unassigned_nodup map)).1 hr hr'
    (congrArg BitVec.toNat h)

theorem decodeOpcode_eq_some {map : OpMap} {b : Byte} {form : Form} (h : decodeOpcode map b = some form) :
    ∃ r ∈ opcodeRows, r.opcode map = b ∧ r.form = form := by
  simp only [decodeOpcode, Option.map_eq_some_iff] at h
  obtain ⟨r, hfind, hform⟩ := h
  exact ⟨r, List.mem_of_find?_eq_some hfind, by simpa using List.find?_some hfind, hform⟩

theorem decodeOpcode_eq_none_iff (map : OpMap) (b : Byte) : decodeOpcode map b = none ↔ b.toNat ∈ unassigned map := by
  simp [mem_unassigned_iff, decodeOpcode, opcodeBytes, BitVec.toNat_inj]

theorem decodeOpcode_of_row (map : OpMap) {r : Row} (hr : r ∈ opcodeRows) :
    decodeOpcode map (r.opcode map) = some r.form := by
  cases hdec : decodeOpcode map (r.opcode map) with
  | none =>
    have hno := (decodeOpcode_eq_none_iff _ _).1 hdec
    exact absurd (List.mem_map_of_mem hr) ((mem_unassigned_iff _ _).1 hno)
  | some form =>
    obtain ⟨r', hr', hop, rfl⟩ := decodeOpcode_eq_some hdec
    rw [row_eq_of_opcode_eq hr' hr hop]

/-- A form stands for an instruction: one encoding, one availability, one name (R86). -/
structure FormOf (form : Form) (i : Instr) : Prop where
  selects : Selects form i i.operandBytes
  wellFormed : ∀ cpu, form.sample.wellFormed cpu = i.wellFormed cpu
  mnemonic : form.sample.mnemonic = i.mnemonic
  mode : form.sample.mode = i.mode

theorem RowOf.formOf {r : Row} {i : Instr} {operands : List Byte} (h : RowOf r i operands)
    (hsel : Selects r.form i operands) : FormOf r.form i where
  selects := h.operands ▸ hsel
  wellFormed cpu := by simp [Instr.wellFormed, h.availability]
  mnemonic := h.mnemonic.symm
  mode := h.mode.symm

/-- The opcode byte of an instruction selects its form. -/
theorem decodeOpcode_opcodeOf (map : OpMap) (i : Instr) :
    ∃ form, decodeOpcode map (opcodeOf map i) = some form ∧ FormOf form i := by
  obtain ⟨r, hr, hsel⟩ := exists_row i
  have hrow := rowOf_of_selects hr hsel
  exact ⟨r.form, hrow.opcodeOf_eq map ▸ decodeOpcode_of_row map hr, hrow.formOf hsel⟩

/-- Bytes that select an instruction are its opcode byte and its operand bytes. -/
theorem encode_of_selects {map : OpMap} {b : Byte} {form : Form} {i : Instr} {operands : List Byte}
    (hdec : decodeOpcode map b = some form) (hsel : Selects form i operands) : encode map i = b :: operands := by
  obtain ⟨r, hr, rfl, rfl⟩ := decodeOpcode_eq_some hdec
  have hrow := rowOf_of_selects hr hsel
  rw [encode_eq, hrow.opcodeOf_eq, hrow.operands]

/-! ## Decoding -/

theorem decode_of_selects {map : OpMap} {b : Byte} {form : Form} {i : Instr} {operands : List Byte}
    (hdec : decodeOpcode map b = some form) (hsel : Selects form i operands) (rest : List Byte) :
    decode map (b :: operands ++ rest) = .ok (i, rest) := by
  cases hsel with
  | one i => simp [decode, hdec]
  | two f b1 => simp [decode, hdec]
  | three f a =>
    have ha : hiByte a ++ loByte a = a := addrOf_hiByte_loByte a
    simp [decode, hdec, ha]

theorem selects_of_decode {map : OpMap} {bytes : List Byte} {i : Instr} {rest : List Byte}
    (h : decode map bytes = .ok (i, rest)) :
    ∃ b form operands, bytes = b :: operands ++ rest ∧ decodeOpcode map b = some form ∧ Selects form i operands := by
  cases bytes with
  | nil => simp [decode] at h
  | cons b tail =>
    cases hdec : decodeOpcode map b with
    | none => simp [decode, hdec] at h
    | some form =>
      refine ⟨b, form, ?_⟩
      cases form with
      | one i' =>
        obtain ⟨rfl, rfl⟩ : i' = i ∧ tail = rest := by simpa [decode, hdec] using h
        exact ⟨[], rfl, hdec, .one i'⟩
      | two f =>
        match tail with
        | [] => simp [decode, hdec] at h
        | b1 :: tail =>
          obtain ⟨rfl, rfl⟩ : f b1 = i ∧ tail = rest := by simpa [decode, hdec] using h
          exact ⟨[b1], rfl, hdec, .two f b1⟩
      | three f =>
        match tail with
        | [] => simp [decode, hdec] at h
        | [_] => simp [decode, hdec] at h
        | b1 :: b2 :: tail =>
          obtain ⟨rfl, rfl⟩ : f (addrOf b2 b1) = i ∧ tail = rest := by simpa [decode, hdec, addrOf] using h
          exact ⟨[b1, b2], rfl, hdec, selects_three_addrOf f b2 b1⟩

theorem decode_eq_illegalOpcode_iff (map : OpMap) (b : Byte) (rest : List Byte) :
    decode map (b :: rest) = .error (.illegalOpcode b) ↔ b.toNat ∈ unassigned map := by
  rw [← decodeOpcode_eq_none_iff]
  cases hdec : decodeOpcode map b with
  | none => simp [decode, hdec]
  | some form =>
    cases form with
    | one i => simp [decode, hdec]
    | two f => cases rest <;> simp [decode, hdec]
    | three f =>
      match rest with
      | [] => simp [decode, hdec]
      | [_] => simp [decode, hdec]
      | _ :: _ :: _ => simp [decode, hdec]

/-- Settles O1: the opcode byte selects the form of the instruction, and the form takes back its operand bytes. -/
theorem decodeEncodeRoundTrip : Obligations.DecodeEncodeRoundTrip := by
  intro map i rest
  obtain ⟨form, hdec, hform⟩ := decodeOpcode_opcodeOf map i
  rw [encode_eq]
  exact decode_of_selects hdec hform.selects rest

/-- Settles O2: decoded bytes select their instruction, and bytes that select it are its encoding. -/
theorem decodedBytesAreEncoding : Obligations.DecodedBytesAreEncoding := by
  intro map bytes i rest h
  obtain ⟨b, form, operands, rfl, hdec, hsel⟩ := selects_of_decode h
  rw [encode_of_selects hdec hsel]

/-- The Sunplus byte as the bit permutation of the 6502 byte (30_encoding.md section 2). -/
def Permuted (std sun : Byte) : Prop :=
  sun.getLsbD 0 = std.getLsbD 2 ∧ sun.getLsbD 1 = std.getLsbD 6 ∧ sun.getLsbD 2 = std.getLsbD 0 ∧
  sun.getLsbD 3 = std.getLsbD 4 ∧ sun.getLsbD 4 = std.getLsbD 5 ∧ sun.getLsbD 5 = std.getLsbD 7 ∧
  sun.getLsbD 6 = std.getLsbD 3 ∧ sun.getLsbD 7 = std.getLsbD 1

theorem row_permuted {r : Row} (hr : r ∈ opcodeRows) : Permuted r.std r.sun := by
  fin_cases hr <;> exact ⟨rfl, rfl, rfl, rfl, rfl, rfl, rfl, rfl⟩

/-- Settles O3: the two bytes of each row of the table are so related, and every instruction has its row. -/
theorem sunplusOpcodePermutesStdOpcode : Obligations.SunplusOpcodePermutesStdOpcode := by
  intro i
  obtain ⟨r, hr, hsel⟩ := exists_row i
  have hrow := rowOf_of_selects hr hsel
  refine ⟨r.std, r.sun, i.operandBytes, ?std, ?sun, row_permuted hr⟩
  case std => rw [encode_eq, hrow.opcodeOf_eq]; rfl
  case sun => rw [encode_eq, hrow.opcodeOf_eq]; rfl

/-- Settles O4: the decoder finds no row exactly for the bytes that are in no row. -/
theorem illegalOpcodesAreTheUnassignedBytes : Obligations.IllegalOpcodesAreTheUnassignedBytes :=
  fun b rest => ⟨decode_eq_illegalOpcode_iff .std b rest, decode_eq_illegalOpcode_iff .sun b rest⟩

/-- Settles O5: each line is one run of the decoder. -/
theorem manualExamplesDecode : Obligations.ManualExamplesDecode :=
  ⟨rfl, rfl, rfl, rfl, rfl, rfl⟩

end Sys2Proof.Laws

namespace Sys2Proof.Laws

open Sys2Proof.Machine Sys2Proof.Claims

/-! ## One access by the kind of its address (R63) -/

section
variable {s : State} {addr : Addr}

theorem holdsByte_or_io (h : s.kindAt addr ≠ .unmapped) : HoldsByte s addr ∨ s.kindAt addr = .io := by
  cases hk : s.kindAt addr with
  | rom => exact .inl (.inl hk)
  | ram => exact .inl (.inr hk)
  | io => exact .inr rfl
  | unmapped => exact absurd hk h

theorem memRead_holdsByte (h : HoldsByte s addr) : memRead s addr = .ok (s.byteAt addr, s) :=
  h.elim (memRead_rom s addr) (memRead_ram s addr)

theorem memRead_completes (h : s.kindAt addr ≠ .unmapped) : ∃ v t, memRead s addr = .ok (v, t) := by
  rcases holdsByte_or_io h with hh | hio
  · exact ⟨_, _, memRead_holdsByte hh⟩
  · exact ⟨_, _, memRead_io s addr hio⟩

theorem memRead_held {t : State} {v : Byte} (h : memRead s addr = .ok (v, t)) (hh : HoldsByte s addr) :
    v = s.byteAt addr ∧ t = s := by
  rw [memRead_holdsByte hh] at h
  exact ⟨(congrArg Prod.fst (Except.ok.inj h)).symm, (congrArg Prod.snd (Except.ok.inj h)).symm⟩

theorem memWrite_completes (v : Byte) (h : s.kindAt addr ≠ .unmapped) : ∃ t, memWrite s addr v = .ok t := by
  cases hk : s.kindAt addr with
  | rom => exact ⟨_, memWrite_rom s addr v hk⟩
  | ram => exact ⟨_, memWrite_ram s addr v hk⟩
  | io => exact ⟨_, memWrite_io s addr v hk⟩
  | unmapped => exact absurd hk h

theorem memWrite_stored {t : State} {v : Byte} (h : memWrite s addr v = .ok t) : Stored s t addr v := by
  refine ⟨fun hram => ?_, fun hne => memWrite_byteAt h (.inr hne)⟩
  rw [memWrite_ram s addr v hram] at h
  exact Except.ok.inj h ▸ byteAt_write_same s addr v

end

theorem memRead_chip {s t : State} {addr : Addr} {v : Byte} (h : memRead s addr = .ok (v, t)) : t.chip = s.chip := by
  rw [memRead_frame h]

theorem memRead_kindAt {s t : State} {addr : Addr} {v : Byte} (h : memRead s addr = .ok (v, t)) (b : Addr) :
    t.kindAt b = s.kindAt b := kindAt_congr (memRead_chip h) b

@[simp] theorem holdsByte_nextInput (s : State) (addr : Addr) : HoldsByte (nextInput s) addr ↔ HoldsByte s addr := by
  simp [HoldsByte]

/-- The environment's next input does not change what a read gives. -/
theorem memRead_nextInput {s s1 : State} {addr : Addr} {b : Byte} (h : memRead s addr = .ok (b, s1)) :
    ∃ t, memRead (nextInput s) addr = .ok (b, t) := by
  rcases memRead_cases h with ⟨hk, rfl, rfl⟩ | ⟨hk, rfl, rfl⟩
  · exact ⟨nextInput s1, by rw [memRead_holdsByte ((holdsByte_nextInput s1 addr).2 hk), nextInput_byteAt]⟩
  · exact ⟨_, by rw [memRead_io _ addr ((nextInput_kindAt s addr).trans hk), nextInput_draws]⟩

/-! ## Fetching (R58, R82, R88, R89) -/

section
variable {s s1 : State} {b : Byte}

theorem fetch_opcode_error {f : Fault} (hb : memRead s s.pc = .error f) : fetch s = .error f := by
  simp [fetch, hb]

theorem fetch_unassigned (hb : memRead s s.pc = .ok (b, s1)) (hdec : decodeOpcode s.chip.opMap b = none) :
    fetch s = .error (.illegalOpcode b) := by
  simp [fetch, hb, hdec]

variable {i : Instr} {form : Form}

theorem fetch_unavailable (hb : memRead s s.pc = .ok (b, s1)) (hdec : decodeOpcode s.chip.opMap b = some form)
    (hform : FormOf form i) (hwf : i.wellFormed s.chip.cpu = false) :
    fetch s = .error (.unavailable i.mnemonic i.mode) := by
  simp [fetch, hb, hdec, hform.wellFormed, hwf, hform.mnemonic, hform.mode]

theorem fetch_one (hb : memRead s s.pc = .ok (b, s1)) (hdec : decodeOpcode s.chip.opMap b = some (.one i))
    (hwf : (Form.one i).sample.wellFormed s.chip.cpu = true) : fetch s = .ok (i, s1) := by
  simp [fetch, hb, hdec, hwf, pure, Except.pure]

theorem fetch_two {f : Byte → Instr} (hb : memRead s s.pc = .ok (b, s1))
    (hdec : decodeOpcode s.chip.opMap b = some (.two f)) (hwf : (Form.two f).sample.wellFormed s.chip.cpu = true) :
    fetch s = memRead s1 (s.pc + 1#16) >>= fun r => .ok (f r.1, r.2) := by
  simp [fetch, hb, hdec, hwf, pure, Except.pure]

theorem fetch_three {f : Addr → Instr} (hb : memRead s s.pc = .ok (b, s1))
    (hdec : decodeOpcode s.chip.opMap b = some (.three f)) (hwf : (Form.three f).sample.wellFormed s.chip.cpu = true) :
    fetch s = memRead s1 (s.pc + 1#16) >>= fun r => memRead r.2 (s.pc + 2#16) >>= fun q =>
      .ok (f (addrOf q.1 r.1), q.2) := by
  simp [fetch, hb, hdec, hwf, pure, Except.pure]

/-- The fetch gives the instruction that the bytes read encode. -/
theorem fetch_of_readsBytes {t : State} (hwf : i.wellFormed s.chip.cpu = true)
    (h : ReadsBytes s s.pc (encode s.chip.opMap i) t) : fetch s = .ok (i, t) := by
  obtain ⟨form, hdec, hform⟩ := decodeOpcode_opcodeOf s.chip.opMap i
  rw [encode_eq] at h
  obtain ⟨s1, hb, hrest⟩ := h
  have hsample := (hform.wellFormed s.chip.cpu).trans hwf
  have hsel := hform.selects
  generalize i.operandBytes = operands at hsel hrest
  cases hsel with
  | one i =>
    obtain rfl : t = s1 := hrest
    exact fetch_one hb hdec hsample
  | two f b1 =>
    obtain ⟨s2, hb1, rfl⟩ := hrest
    rw [fetch_two hb hdec hsample, hb1, ok_bind]
  | three f a =>
    obtain ⟨s2, hb1, s3, hb2, rfl⟩ := hrest
    rw [BitVec.add_assoc] at hb2
    rw [fetch_three hb hdec hsample, hb1, ok_bind]
    show memRead s2 (s.pc + (1#16 + 1#16)) >>= _ = _
    rw [hb2, ok_bind, addrOf_hiByte_loByte]

/-- The bytes that a fetch reads are the encoding of the instruction that it gives. -/
theorem readsBytes_of_fetch {t : State} (h : fetch s = .ok (i, t)) :
    i.wellFormed s.chip.cpu = true ∧ ReadsBytes s s.pc (encode s.chip.opMap i) t := by
  obtain ⟨b, s1, form, hb, hdec, hwf, hcase⟩ := fetch_cases h
  have key : ∃ operands, Selects form i operands ∧ ReadsBytes s1 (s.pc + 1#16) operands t := by
    rcases hcase with ⟨rfl, rfl⟩ | ⟨f, b1, rfl, hb1, rfl⟩ | ⟨f, b1, s2, b2, rfl, hb1, hb2, rfl⟩
    · exact ⟨[], .one i, rfl⟩
    · exact ⟨[b1], .two f b1, t, hb1, rfl⟩
    · refine ⟨[b1, b2], selects_three_addrOf f b2 b1, s2, hb1, t, ?_, rfl⟩
      rwa [BitVec.add_assoc]
  obtain ⟨operands, hsel, hreads⟩ := key
  obtain ⟨r, hr, rfl, rfl⟩ := decodeOpcode_eq_some hdec
  have hrow := rowOf_of_selects hr hsel
  exact ⟨(hrow.formOf hsel).wellFormed s.chip.cpu ▸ hwf, encode_of_selects hdec hsel ▸ ⟨s1, hb, hreads⟩⟩

end

theorem addr_add_ofNat_succ (addr : Addr) (k : Nat) :
    addr + BitVec.ofNat 16 (k + 1) = addr + 1#16 + BitVec.ofNat 16 k := by
  rw [BitVec.ofNat_add, BitVec.add_comm (BitVec.ofNat 16 k), ← BitVec.add_assoc]

theorem readsBytes_of_held {s : State} {addr : Addr} {bytes : List Byte}
    (h : ∀ (k : Nat) (b : Byte), bytes[k]? = some b →
      HoldsByte s (addr + BitVec.ofNat 16 k) ∧ s.byteAt (addr + BitVec.ofNat 16 k) = b) :
    ReadsBytes s addr bytes s := by
  induction bytes generalizing addr with
  | nil => rfl
  | cons b rest ih =>
    obtain ⟨hheld, hbyte⟩ := h 0 b rfl
    rw [BitVec.add_zero] at hheld hbyte
    refine ⟨s, hbyte ▸ memRead_holdsByte hheld, ih fun k c hk => ?_⟩
    have := h (k + 1) c hk
    rwa [addr_add_ofNat_succ] at this

theorem held_of_readsBytes {s t : State} {addr : Addr} {bytes : List Byte} (h : ReadsBytes s addr bytes t)
    (hheld : ∀ k < bytes.length, HoldsByte s (addr + BitVec.ofNat 16 k)) :
    ∀ (k : Nat) (b : Byte), bytes[k]? = some b → s.byteAt (addr + BitVec.ofNat 16 k) = b := by
  induction bytes generalizing s addr with
  | nil => simp
  | cons b rest ih =>
    obtain ⟨u, hb, hrest⟩ := h
    have h0 := hheld 0 (by simp)
    rw [BitVec.add_zero] at h0
    rw [memRead_holdsByte h0] at hb
    obtain ⟨rfl, rfl⟩ : s.byteAt addr = b ∧ s = u := by simpa using hb
    intro k c hk
    cases k with
    | zero =>
      rw [BitVec.add_zero]
      simpa using hk
    | succ k =>
      rw [addr_add_ofNat_succ]
      exact ih hrest (fun j hj => addr_add_ofNat_succ addr j ▸ hheld (j + 1) (by simpa using hj)) k c hk

/-! ## One step at a boundary (R82, R205, R206) -/

section
variable {s : State}

theorem step_taken (h : interruptTaken s = true) : step s = outcome (enterInterrupt (nextInput s)) := by
  simp [step, h]

theorem step_fetched {i : Instr} {s1 : State} (h : interruptTaken s = false) (hf : fetch (nextInput s) = .ok (i, s1)) :
    step s = exec i s1 := by
  simp [step, h, hf]

theorem step_fetch_fault {f : Fault} (h : interruptTaken s = false) (hf : fetch (nextInput s) = .error f) :
    step s = .fault f := by
  simp [step, h, hf]

theorem interruptTaken_iff : interruptTaken s = true ↔ s.p.i = false ∧ s.irq.pending = true ∧ s.irq.accept = true := by
  simp [interruptTaken, and_assoc]

theorem interruptTaken_eq_false_iff :
    interruptTaken s = false ↔ s.p.i = true ∨ s.irq.pending = false ∨ s.irq.accept = false := by
  simp [interruptTaken, imp_iff_or_not, or_comm, or_left_comm]

theorem memRead_nextInput_pc (h : HoldsByte s s.pc) :
    memRead (nextInput s) (nextInput s).pc = .ok (s.byteAt s.pc, nextInput s) := by
  rw [nextInput_pc, memRead_holdsByte ((holdsByte_nextInput s s.pc).2 h), nextInput_byteAt]

end

/-- Settles O6: a step with no interrupt taken is the fetch and then exec. -/
theorem stepRunsFetchedInstruction : Obligations.StepRunsFetchedInstruction :=
  fun _ hi => ⟨fun _ _ hf => step_fetched hi hf, fun _ hf => step_fetch_fault hi hf⟩

/-- Settles O7: bytes held are read as themselves, and the fetch gives the instruction whose encoding is read. -/
theorem fetchReadsTheEncodedInstruction : Obligations.FetchReadsTheEncodedInstruction := by
  intro s i hwf
  have hwf' : i.wellFormed (nextInput s).chip.cpu = true := by rwa [nextInput_chip]
  have hfetch : ∀ t, ReadsBytes (nextInput s) s.pc (encode s.chip.opMap i) t → fetch (nextInput s) = .ok (i, t) := by
    intro t ht
    refine fetch_of_readsBytes hwf' ?_
    rwa [nextInput_pc, nextInput_chip]
  refine ⟨fun hheld => ⟨?fetchHeld, fun hi => ?stepHeld⟩, fun t ht => ?fetchRead, fun t ht hi => ?stepRead⟩
  case fetchHeld => exact fetch_of_readsBytes hwf (readsBytes_of_held hheld)
  case stepHeld =>
    refine step_fetched hi (hfetch _ (readsBytes_of_held fun k b hk => ?_))
    rw [holdsByte_nextInput, nextInput_byteAt]
    exact hheld k b hk
  case fetchRead =>
    have hf := fetch_of_readsBytes hwf ht
    exact ⟨hf, fetch_frame hf⟩
  case stepRead => exact step_fetched hi (hfetch t ht)

/-- Settles O8: an unassigned byte selects no form. -/
theorem unassignedOpcodeStopsTheStep : Obligations.UnassignedOpcodeStopsTheStep := by
  intro s hi hheld hmem
  have hunassigned : (s.byteAt s.pc).toNat ∈ unassigned s.chip.opMap := by
    cases hmap : s.chip.opMap <;> simpa [hmap, unassigned] using hmem
  refine step_fetch_fault hi (fetch_unassigned (memRead_nextInput_pc hheld) ?_)
  rwa [nextInput_chip, decodeOpcode_eq_none_iff]

/-- Settles O9: the form selected has the availability, the mnemonic and the mode of the instruction. -/
theorem unavailableOpcodeStopsTheStep : Obligations.UnavailableOpcodeStopsTheStep := by
  intro s i hi hheld hop hwf
  obtain ⟨form, hdec, hform⟩ := decodeOpcode_opcodeOf s.chip.opMap i
  rw [encode_head?, Option.some_inj] at hop
  refine step_fetch_fault hi (fetch_unavailable (memRead_nextInput_pc hheld) ?_ hform ?_)
  · rwa [nextInput_chip, ← hop]
  · rwa [nextInput_chip]

theorem operandBytes_length (i : Instr) : i.operandBytes.length + 1 = i.length := by cases i <;> rfl

/-- Where the opcode byte read is that of an available instruction, its first or second operand byte decides the fetch. -/
theorem fetch_operand_unmapped {s s1 : State} {b : Byte} {i : Instr} (hb : memRead s s.pc = .ok (b, s1))
    (hop : opcodeOf s.chip.opMap i = b) (hwf : i.wellFormed s.chip.cpu = true) :
    (2 ≤ i.length → s.kindAt (s.pc + 1#16) = .unmapped → fetch s = .error (.unmappedRead (s.pc + 1#16))) ∧
    (i.length = 3 → s.kindAt (s.pc + 1#16) ≠ .unmapped → s.kindAt (s.pc + 2#16) = .unmapped →
      fetch s = .error (.unmappedRead (s.pc + 2#16))) := by
  obtain ⟨form, hdec, hform⟩ := decodeOpcode_opcodeOf s.chip.opMap i
  rw [hop] at hdec
  have hsample := (hform.wellFormed s.chip.cpu).trans hwf
  have hlen := operandBytes_length i
  have hsel := hform.selects
  generalize i.operandBytes = operands at hsel hlen
  cases hsel with
  | one => exact ⟨fun h2 => by simp at hlen; omega, fun h3 => by simp at hlen; omega⟩
  | two f b1 =>
    refine ⟨fun _ hu => ?_, fun h3 => by simp at hlen; omega⟩
    rw [fetch_two hb hdec hsample, memRead_unmapped _ _ ((memRead_kindAt hb _).trans hu), error_bind]
  | three f a =>
    refine ⟨fun _ hu => ?_, fun _ hm hu => ?_⟩
    · rw [fetch_three hb hdec hsample, memRead_unmapped _ _ ((memRead_kindAt hb _).trans hu), error_bind]
    · obtain ⟨v, s2, hv⟩ := memRead_completes (s := s1) (by rwa [memRead_kindAt hb])
      have hu2 : s2.kindAt (s.pc + 2#16) = .unmapped := by rwa [memRead_kindAt hv, memRead_kindAt hb]
      rw [fetch_three hb hdec hsample, hv, ok_bind, memRead_unmapped _ _ hu2, error_bind]

/-- Settles O10: the reads of a fetch are in order, and the first unmapped one ends it. -/
theorem unmappedFetchStopsTheStep : Obligations.UnmappedFetchStopsTheStep := by
  intro s hi
  refine ⟨fun hu => ?opcode, fun i b s1 hwf hb hop => ?operands⟩
  case opcode =>
    refine step_fetch_fault hi (fetch_opcode_error ?_)
    rw [nextInput_pc, memRead_unmapped _ _ ((nextInput_kindAt s s.pc).trans hu)]
  case operands =>
    obtain ⟨t, hb'⟩ := memRead_nextInput hb
    rw [encode_head?, Option.some_inj] at hop
    obtain ⟨hfirst, hsecond⟩ := fetch_operand_unmapped (s := nextInput s) (i := i) (by rwa [nextInput_pc])
      (by rwa [nextInput_chip]) (by rwa [nextInput_chip])
    simp only [nextInput_kindAt, nextInput_pc] at hfirst hsecond
    exact ⟨fun h2 hu => step_fetch_fault hi (hfirst h2 hu), fun h3 hm hu => step_fetch_fault hi (hsecond h3 hm hu)⟩

/-- Settles O11: the two sides of the acceptance condition. -/
theorem interruptAcceptance : Obligations.InterruptAcceptance :=
  fun _ => ⟨fun h _ _ hf => step_fetched (interruptTaken_eq_false_iff.2 h) hf, fun h => step_taken (interruptTaken_iff.2 h)⟩

/-- Settles O58: the bytes of the jump are held, so the fetch after the next input gives the same jump. -/
theorem stepAtEndOfRunChangesNothing : Obligations.StepAtEndOfRunChangesNothing := by
  rintro s ⟨hno, s1, hf⟩ hheld
  obtain ⟨hwf, hreads⟩ := readsBytes_of_fetch hf
  have hbytes := held_of_readsBytes hreads fun k hk => hheld k (by simpa [encode_eq, Instr.operandBytes] using hk)
  have hi : interruptTaken s = false := interruptTaken_eq_false_iff.2 (hno.elim (.inr ∘ .inl) .inl)
  have hfetch : fetch (nextInput s) = .ok (.jmpAbs s.pc, nextInput s) := by
    refine fetch_of_readsBytes (by rwa [nextInput_chip]) (readsBytes_of_held fun k b hk => ?_)
    rw [nextInput_chip] at hk
    have hlt : k < 3 := by
      have := (List.getElem?_eq_some_iff.1 hk).1
      simpa [encode_eq, Instr.operandBytes] using this
    rw [nextInput_pc, holdsByte_nextInput, nextInput_byteAt]
    exact ⟨hheld k hlt, hbytes k b hk⟩
  rw [step_fetched hi hfetch]
  show Host.Outcome.next { nextInput s with pc := s.pc } = .next (nextInput s)
  rw [← nextInput_pc s]

end Sys2Proof.Laws

namespace Sys2Proof.Laws

open Sys2Proof.Machine Sys2Proof.Claims

/-! ## What every operation keeps -/

/-- What no operation changes: the chip, the interrupt input, the canonical form of memory and the bytes outside RAM; and
the count of draws never falls. -/
structure Keeps (s t : State) : Prop where
  chip : t.chip = s.chip
  irq : t.irq = s.irq
  irqNext : t.irqNext = s.irqNext
  draws : s.draws ≤ t.draws
  wf : Memory.wf s.mem = true → Memory.wf t.mem = true
  byteAt : ∀ addr, s.kindAt addr ≠ .ram → t.byteAt addr = s.byteAt addr

theorem Keeps.trans {s t u : State} (h : Keeps s t) (h' : Keeps t u) : Keeps s u where
  chip := h'.chip.trans h.chip
  irq := h'.irq.trans h.irq
  irqNext := h'.irqNext.trans h.irqNext
  draws := h.draws.trans h'.draws
  wf hs := h'.wf (h.wf hs)
  byteAt addr hk := (h'.byteAt addr (by rwa [kindAt_congr h.chip])).trans (h.byteAt addr hk)

/-- A change of registers, flags and the count of draws. -/
theorem Keeps.of_registers {s t : State} (hmem : t.mem = s.mem) (hchip : t.chip = s.chip) (hirq : t.irq = s.irq)
    (hnext : t.irqNext = s.irqNext) (hdraws : s.draws ≤ t.draws) : Keeps s t where
  chip := hchip
  irq := hirq
  irqNext := hnext
  draws := hdraws
  wf hs := hmem ▸ hs
  byteAt addr _ := byteAt_congr hmem addr

theorem Keeps.refl (s : State) : Keeps s s := .of_registers rfl rfl rfl rfl le_rfl

theorem Keeps.setPc {s t : State} (h : Keeps s t) (pc : Addr) : Keeps s { t with pc := pc } :=
  h.trans (.of_registers rfl rfl rfl rfl le_rfl)

theorem Keeps.setP {s t : State} (h : Keeps s t) (p : Flags) : Keeps s { t with p := p } :=
  h.trans (.of_registers rfl rfl rfl rfl le_rfl)

theorem Keeps.setSp {s t : State} (h : Keeps s t) (sp : Byte) : Keeps s { t with sp := sp } :=
  h.trans (.of_registers rfl rfl rfl rfl le_rfl)

theorem Keeps.advance {s t : State} (h : Keeps s t) (len : Nat) : Keeps s (Machine.advance t len) := h.setPc _

section
variable {s t : State} {addr target : Addr} {v : Byte}

theorem memRead_keeps (h : memRead s addr = .ok (v, t)) : Keeps s t := by
  rcases memRead_cases h with ⟨_, _, rfl⟩ | ⟨_, _, rfl⟩
  · exact .refl t
  · exact .of_registers rfl rfl rfl rfl (Nat.le_succ _)

theorem memWrite_keeps (h : memWrite s addr v = .ok t) : Keeps s t where
  chip := by rw [memWrite_frame h]
  irq := by rw [memWrite_frame h]
  irqNext := by rw [memWrite_frame h]
  draws := by rw [memWrite_frame h]
  wf := memWrite_wf h
  byteAt _ hk := memWrite_byteAt h (.inr hk)

theorem read16_keeps {lo hi : Addr} (h : read16 s lo hi = .ok (target, t)) : Keeps s t := by
  obtain ⟨_, _, _, hlo, hhi, _⟩ := read16_cases h
  exact (memRead_keeps hlo).trans (memRead_keeps hhi)

theorem push_keeps (h : push s v = .ok t) : Keeps s t := by
  obtain ⟨_, hw, rfl⟩ := push_cases h
  exact (memWrite_keeps hw).setSp _

theorem pull_keeps (h : pull s = .ok (v, t)) : Keeps s t :=
  ((Keeps.refl s).setSp _).trans (memRead_keeps (pull_cases h))

theorem pushAddr_keeps (h : pushAddr s addr = .ok t) : Keeps s t := by
  obtain ⟨_, hhi, hlo⟩ := pushAddr_cases h
  exact (push_keeps hhi).trans (push_keeps hlo)

theorem pullAddr_keeps (h : pullAddr s = .ok (addr, t)) : Keeps s t := by
  obtain ⟨_, _, _, hlo, hhi, _⟩ := pullAddr_cases h
  exact (pull_keeps hlo).trans (pull_keeps hhi)

theorem statusByte_draws (s : State) :
    (statusByte s).2.draws = s.draws + if s.chip.cpu = .cpu12 then 3 else 2 := by
  cases hcpu : s.chip.cpu <;> simp [statusByte, drawBit, hcpu]

theorem statusByte_keeps (s : State) : Keeps s (statusByte s).2 :=
  .of_registers (statusByte_mem s) (statusByte_chip s) (statusByte_irq s) (statusByte_irqNext s)
    (statusByte_draws s ▸ Nat.le_add_right _ _)

theorem pushStatus_keeps (h : pushStatus s = .ok t) : Keeps s t :=
  (statusByte_keeps s).trans (push_keeps (pushStatus_cases h))

theorem pullStatus_keeps (h : pullStatus s = .ok t) : Keeps s t := by
  obtain ⟨_, _, hb, rfl⟩ := pullStatus_cases h
  exact (pull_keeps hb).setP _

theorem enterInterrupt_keeps (h : enterInterrupt s = .ok t) : Keeps s t := by
  obtain ⟨_, _, _, _, _, hpc, hp, _, hvector, rfl⟩ := enterInterrupt_cases h
  exact ((((pushAddr_keeps hpc).trans (pushStatus_keeps hp)).setP _).trans (read16_keeps hvector)).setPc _

theorem returnFromInterrupt_keeps (h : returnFromInterrupt s = .ok t) : Keeps s t := by
  obtain ⟨_, _, _, hp, hpc, rfl⟩ := returnFromInterrupt_cases h
  exact ((pullStatus_keeps hp).trans (pullAddr_keeps hpc)).setPc _

theorem effAddr_keeps {place : Place} {ea : Addr} (h : effAddr s place = .ok (ea, t)) : Keeps s t := by
  cases place with
  | indx aa => exact read16_keeps h
  | indy aa =>
    simp only [effAddr, bind_eq_ok] at h
    obtain ⟨⟨base, s1⟩, hread, heq⟩ := h
    obtain ⟨_, rfl⟩ : base + s1.y.setWidth 16 = ea ∧ s1 = t := by simpa [pure, Except.pure] using heq
    exact read16_keeps hread
  | _ =>
    obtain ⟨_, rfl⟩ : _ ∧ s = t := by simpa [effAddr] using h
    exact .refl s

theorem readOperand_keeps {o : Operand} (h : readOperand s o = .ok (v, t)) : Keeps s t := by
  rcases readOperand_cases h with ⟨_, rfl⟩ | ⟨_, _, _, _, hea, hread⟩
  · exact .refl t
  · exact (effAddr_keeps hea).trans (memRead_keeps hread)

end

/-! ## Every instruction is one of the shared operations, and its mnemonic says with what effect -/

/-- The effect of a mnemonic on its operand byte. -/
inductive ReadEffect : String → (Byte → State → State) → Prop
  | adc : ReadEffect "ADC" addWithCarry
  | sbc : ReadEffect "SBC" subtractWithBorrow
  | and : ReadEffect "AND" andToA
  | ora : ReadEffect "ORA" orToA
  | eor : ReadEffect "EOR" eorToA
  | bit : ReadEffect "BIT" bitTest
  | cmp : ReadEffect "CMP" compareA
  | cpx : ReadEffect "CPX" compareX
  | cpy : ReadEffect "CPY" compareY
  | lda : ReadEffect "LDA" loadA
  | ldx : ReadEffect "LDX" loadX
  | ldy : ReadEffect "LDY" loadY
  | tst (n : Nat) : ReadEffect "TST" (testBit n)

/-- The register that a mnemonic stores. -/
inductive StoreEffect : String → (State → Byte) → Prop
  | sta : StoreEffect "STA" State.a
  | stx : StoreEffect "STX" State.x
  | sty : StoreEffect "STY" State.y

/-- What a mnemonic makes of a byte and the flags, in memory or in A. -/
inductive ModifyEffect : String → (Byte → Flags → Byte × Flags) → Prop
  | asl : ModifyEffect "ASL" aslResult
  | lsr : ModifyEffect "LSR" lsrResult
  | rol : ModifyEffect "ROL" rolResult
  | ror : ModifyEffect "ROR" rorResult
  | inc : ModifyEffect "INC" incResult
  | dec : ModifyEffect "DEC" decResult
  | clr (n : Nat) : ModifyEffect "CLR" (clrResult n)
  | set (n : Nat) : ModifyEffect "SET" (setResult n)
  | inv (n : Nat) : ModifyEffect "INV" (invResult n)

/-- The effect of a mnemonic on registers and flags alone. -/
inductive ImpliedEffect : String → (State → State) → Prop
  | inx : ImpliedEffect "INX" incrementX
  | iny : ImpliedEffect "INY" incrementY
  | dex : ImpliedEffect "DEX" decrementX
  | dey : ImpliedEffect "DEY" decrementY
  | clc : ImpliedEffect "CLC" clearC
  | cld : ImpliedEffect "CLD" clearD
  | cli : ImpliedEffect "CLI" clearI
  | clv : ImpliedEffect "CLV" clearV
  | sec : ImpliedEffect "SEC" setC
  | sed : ImpliedEffect "SED" setD
  | sei : ImpliedEffect "SEI" setI
  | nop : ImpliedEffect "NOP" (fun s => s)
  | tax : ImpliedEffect "TAX" transferAX
  | tay : ImpliedEffect "TAY" transferAY
  | tsx : ImpliedEffect "TSX" transferSX
  | txa : ImpliedEffect "TXA" transferXA
  | txs : ImpliedEffect "TXS" transferXS
  | tya : ImpliedEffect "TYA" transferYA

/-- The condition of a branch. -/
inductive BranchEffect : String → (Flags → Bool) → Prop
  | bcc : BranchEffect "BCC" (fun p => !p.c)
  | bcs : BranchEffect "BCS" Flags.c
  | beq : BranchEffect "BEQ" Flags.z
  | bmi : BranchEffect "BMI" Flags.n
  | bne : BranchEffect "BNE" (fun p => !p.z)
  | bpl : BranchEffect "BPL" (fun p => !p.n)
  | bvc : BranchEffect "BVC" (fun p => !p.v)
  | bvs : BranchEffect "BVS" Flags.v

/-- The shared operation that an instruction is. -/
inductive RunsAs (i : Instr) : Prop
  | read (o : Operand) (f : Byte → State → State) (effect : ReadEffect i.mnemonic f)
      (run : exec i = readOp o f) (length : i.length = operandLength o)
  | store (place : Place) (v : State → Byte) (effect : StoreEffect i.mnemonic v) (mode : i.mode ≠ .acc)
      (run : exec i = storeOp place v) (length : i.length = placeLength place)
  | modify (place : Place) (f : Byte → Flags → Byte × Flags) (effect : ModifyEffect i.mnemonic f) (mode : i.mode ≠ .acc)
      (run : exec i = modifyOp place f) (length : i.length = placeLength place)
  | accumulator (f : Byte → Flags → Byte × Flags) (effect : ModifyEffect i.mnemonic f) (mode : i.mode = .acc)
      (run : exec i = accumulatorOp f) (length : i.length = 1)
  | implied (f : State → State) (effect : ImpliedEffect i.mnemonic f)
      (run : exec i = impliedOp f) (length : i.length = 1)
  | branch (condition : Flags → Bool) (rel : Byte) (effect : BranchEffect i.mnemonic condition)
      (run : ∀ s, exec i s = branch (condition s.p) rel s)
  | jump (aaaa : Addr) (instr : i = .jmpAbs aaaa)
  | jumpIndirect (aaaa : Addr) (instr : i = .jmpInd aaaa)
  | call (aaaa : Addr) (instr : i = .jsr aaaa)
  | returnSubroutine (instr : i = .rts)
  | returnInterrupt (instr : i = .rti)
  | pushA (instr : i = .pha)
  | pushP (instr : i = .php)
  | pullA (instr : i = .pla)
  | pullP (instr : i = .plp)

theorem runsAs (i : Instr) : RunsAs i := by
  cases i with
  | adcImm => exact .read (.imm _) _ .adc rfl rfl
  | adcZp | adcZpx | adcAbs | adcAbsx | adcAbsy | adcIndx | adcIndy => exact .read _ _ .adc rfl rfl
  | sbcImm => exact .read (.imm _) _ .sbc rfl rfl
  | sbcZp | sbcZpx | sbcAbs | sbcAbsx | sbcAbsy | sbcIndx | sbcIndy => exact .read _ _ .sbc rfl rfl
  | andImm => exact .read (.imm _) _ .and rfl rfl
  | andZp | andZpx | andAbs | andAbsx | andAbsy | andIndx | andIndy => exact .read _ _ .and rfl rfl
  | oraImm => exact .read (.imm _) _ .ora rfl rfl
  | oraZp | oraZpx | oraAbs | oraAbsx | oraAbsy | oraIndx | oraIndy => exact .read _ _ .ora rfl rfl
  | eorImm => exact .read (.imm _) _ .eor rfl rfl
  | eorZp | eorZpx | eorAbs | eorAbsx | eorAbsy | eorIndx | eorIndy => exact .read _ _ .eor rfl rfl
  | bitZp | bitAbs => exact .read _ _ .bit rfl rfl
  | cmpImm => exact .read (.imm _) _ .cmp rfl rfl
  | cmpZp | cmpZpx | cmpAbs | cmpAbsx | cmpAbsy | cmpIndx | cmpIndy => exact .read _ _ .cmp rfl rfl
  | cpxImm => exact .read (.imm _) _ .cpx rfl rfl
  | cpxZp | cpxAbs => exact .read _ _ .cpx rfl rfl
  | cpyImm => exact .read (.imm _) _ .cpy rfl rfl
  | cpyZp | cpyAbs => exact .read _ _ .cpy rfl rfl
  | ldaImm => exact .read (.imm _) _ .lda rfl rfl
  | ldaZp | ldaZpx | ldaAbs | ldaAbsx | ldaAbsy | ldaIndx | ldaIndy => exact .read _ _ .lda rfl rfl
  | ldxImm => exact .read (.imm _) _ .ldx rfl rfl
  | ldxZp | ldxZpy | ldxAbs | ldxAbsy => exact .read _ _ .ldx rfl rfl
  | ldyImm => exact .read (.imm _) _ .ldy rfl rfl
  | ldyZp | ldyZpx | ldyAbs | ldyAbsx => exact .read _ _ .ldy rfl rfl
  | tst0 | tst1 | tst2 | tst3 | tst4 | tst5 | tst6 | tst7 => exact .read _ _ (.tst _) rfl rfl
  | staZp | staZpx | staAbs | staAbsx | staAbsy | staIndx | staIndy => exact .store _ _ .sta nofun rfl rfl
  | stxZp | stxZpy | stxAbs => exact .store _ _ .stx nofun rfl rfl
  | styZp | styZpx | styAbs => exact .store _ _ .sty nofun rfl rfl
  | aslZp | aslZpx | aslAbs | aslAbsx => exact .modify _ _ .asl nofun rfl rfl
  | lsrZp | lsrZpx | lsrAbs | lsrAbsx => exact .modify _ _ .lsr nofun rfl rfl
  | rolZp | rolZpx | rolAbs | rolAbsx => exact .modify _ _ .rol nofun rfl rfl
  | rorZp | rorZpx | rorAbs | rorAbsx => exact .modify _ _ .ror nofun rfl rfl
  | incZp | incZpx | incAbs | incAbsx => exact .modify _ _ .inc nofun rfl rfl
  | decZp | decZpx | decAbs | decAbsx => exact .modify _ _ .dec nofun rfl rfl
  | clr0 | clr1 | clr2 | clr3 | clr4 | clr5 | clr6 | clr7 => exact .modify _ _ (.clr _) nofun rfl rfl
  | set0 | set1 | set2 | set3 | set4 | set5 | set6 | set7 => exact .modify _ _ (.set _) nofun rfl rfl
  | inv0 | inv1 | inv2 | inv3 | inv4 | inv5 | inv6 | inv7 => exact .modify _ _ (.inv _) nofun rfl rfl
  | aslAcc => exact .accumulator _ .asl rfl rfl rfl
  | lsrAcc => exact .accumulator _ .lsr rfl rfl rfl
  | rolAcc => exact .accumulator _ .rol rfl rfl rfl
  | rorAcc => exact .accumulator _ .ror rfl rfl rfl
  | inx => exact .implied _ .inx rfl rfl
  | iny => exact .implied _ .iny rfl rfl
  | dex => exact .implied _ .dex rfl rfl
  | dey => exact .implied _ .dey rfl rfl
  | clc => exact .implied _ .clc rfl rfl
  | cld => exact .implied _ .cld rfl rfl
  | cli => exact .implied _ .cli rfl rfl
  | clv => exact .implied _ .clv rfl rfl
  | sec => exact .implied _ .sec rfl rfl
  | sed => exact .implied _ .sed rfl rfl
  | sei => exact .implied _ .sei rfl rfl
  | nop => exact .implied _ .nop rfl rfl
  | tax => exact .implied _ .tax rfl rfl
  | tay => exact .implied _ .tay rfl rfl
  | tsx => exact .implied _ .tsx rfl rfl
  | txa => exact .implied _ .txa rfl rfl
  | txs => exact .implied _ .txs rfl rfl
  | tya => exact .implied _ .tya rfl rfl
  | bcc => exact .branch _ _ .bcc fun _ => rfl
  | bcs => exact .branch _ _ .bcs fun _ => rfl
  | beq => exact .branch _ _ .beq fun _ => rfl
  | bmi => exact .branch _ _ .bmi fun _ => rfl
  | bne => exact .branch _ _ .bne fun _ => rfl
  | bpl => exact .branch _ _ .bpl fun _ => rfl
  | bvc => exact .branch _ _ .bvc fun _ => rfl
  | bvs => exact .branch _ _ .bvs fun _ => rfl
  | jmpAbs => exact .jump _ rfl
  | jmpInd => exact .jumpIndirect _ rfl
  | jsr => exact .call _ rfl
  | rts => exact .returnSubroutine rfl
  | rti => exact .returnInterrupt rfl
  | pha => exact .pushA rfl
  | php => exact .pushP rfl
  | pla => exact .pullA rfl
  | plp => exact .pullP rfl

end Sys2Proof.Laws

namespace Sys2Proof.Laws

open Sys2Proof.Machine Sys2Proof.Claims

/-! ## The decimal operations (R180, R181) -/

/-- What ADC and SBC leave alone: everything but A, the flags N, V, Z and C and the count of draws. -/
def ArithmeticFrame (s t : State) : Prop :=
  t = { s with a := t.a, p := { s.p with n := t.p.n, v := t.p.v, z := t.p.z, c := t.p.c }, draws := t.draws } ∧
    s.draws ≤ t.draws

theorem decimalValid_frame (s : State) (r : Byte × Bool) : ArithmeticFrame s (decimalValid s r) :=
  ⟨rfl, Nat.le_add_right _ 3⟩

theorem decimalInvalid_frame (s : State) : ArithmeticFrame s (decimalInvalid s) := ⟨rfl, Nat.le_add_right _ 5⟩

theorem addWithCarry_frame (m : Byte) (s : State) : ArithmeticFrame s (addWithCarry m s) := by
  unfold addWithCarry
  split
  · split
    · exact decimalValid_frame s _
    · exact decimalInvalid_frame s
  · exact ⟨rfl, le_rfl⟩

theorem subtractWithBorrow_frame (m : Byte) (s : State) : ArithmeticFrame s (subtractWithBorrow m s) := by
  unfold subtractWithBorrow
  split
  · split
    · exact decimalValid_frame s _
    · exact decimalInvalid_frame s
  · exact ⟨rfl, le_rfl⟩

/-! ## Which flags, registers and bytes a mnemonic writes -/

/-- The table of flag writers (10_state.md section 2): a flag whose row does not list the mnemonic is the same. -/
def FlagsKept (mnemonic : String) (p q : Flags) : Prop :=
  (mnemonic ∉ ["ADC", "AND", "ASL", "BIT", "CMP", "CPX", "CPY", "DEC", "DEX", "DEY", "EOR", "INC", "INX", "INY", "LDA", "LDX",
    "LDY", "LSR", "ORA", "PLA", "PLP", "ROL", "ROR", "RTI", "SBC", "TAX", "TAY", "TSX", "TXA", "TYA"] → q.n = p.n) ∧
  (mnemonic ∉ ["ADC", "BIT", "CLV", "PLP", "RTI", "SBC"] → q.v = p.v) ∧
  (mnemonic ∉ ["CLD", "SED", "PLP", "RTI"] → q.d = p.d) ∧
  (mnemonic ∉ ["CLI", "SEI", "PLP", "RTI"] → q.i = p.i) ∧
  (mnemonic ∉ ["ADC", "AND", "ASL", "BIT", "CMP", "CPX", "CPY", "DEC", "DEX", "DEY", "EOR", "INC", "INX", "INY", "LDA", "LDX",
    "LDY", "LSR", "ORA", "PLA", "PLP", "ROL", "ROR", "RTI", "SBC", "TAX", "TAY", "TSX", "TXA", "TYA", "TST"] → q.z = p.z) ∧
  (mnemonic ∉ ["ADC", "ASL", "CLC", "CMP", "CPX", "CPY", "LSR", "PLP", "ROL", "ROR", "RTI", "SBC", "SEC"] → q.c = p.c)

/-- The writers of the registers (10_state.md section 1): a register that does not list the mnemonic is the same, and so
is A but for an accumulator form. -/
def RegistersKept (mnemonic : String) (accumulator : Prop) (s t : State) : Prop :=
  (mnemonic ∉ ["ADC", "AND", "EOR", "ORA", "SBC", "LDA", "PLA", "TXA", "TYA"] → ¬accumulator → t.a = s.a) ∧
  (mnemonic ∉ ["LDX", "TAX", "TSX", "INX", "DEX"] → t.x = s.x) ∧
  (mnemonic ∉ ["LDY", "TAY", "INY", "DEY"] → t.y = s.y) ∧
  (mnemonic ∉ ["TXS", "PHA", "PHP", "PLA", "PLP", "JSR", "RTS", "RTI"] → t.sp = s.sp)

theorem flagsKept_refl (mnemonic : String) (p : Flags) : FlagsKept mnemonic p p :=
  ⟨fun _ => rfl, fun _ => rfl, fun _ => rfl, fun _ => rfl, fun _ => rfl, fun _ => rfl⟩

theorem registersKept_of_eq (mnemonic : String) {accumulator : Prop} {s t : State} (ha : ¬accumulator → t.a = s.a)
    (hx : t.x = s.x) (hy : t.y = s.y) (hsp : t.sp = s.sp) : RegistersKept mnemonic accumulator s t :=
  ⟨fun _ => ha, fun _ => hx, fun _ => hy, fun _ => hsp⟩

section
variable {mnemonic : String} {f : Byte → State → State}

theorem ReadEffect.flagsKept (h : ReadEffect mnemonic f) (m : Byte) (s : State) :
    FlagsKept mnemonic s.p (f m s).p := by
  cases h with
  | adc => rw [(addWithCarry_frame m s).1]; simp [FlagsKept]
  | sbc => rw [(subtractWithBorrow_frame m s).1]; simp [FlagsKept]
  | and => simp [FlagsKept, andToA]
  | ora => simp [FlagsKept, orToA]
  | eor => simp [FlagsKept, eorToA]
  | bit => simp [FlagsKept, bitTest, bitFlags]
  | cmp => simp [FlagsKept, compareA, compareFlags]
  | cpx => simp [FlagsKept, compareX, compareFlags]
  | cpy => simp [FlagsKept, compareY, compareFlags]
  | lda => simp [FlagsKept, loadA]
  | ldx => simp [FlagsKept, loadX]
  | ldy => simp [FlagsKept, loadY]
  | tst n => simp [FlagsKept, testBit, tstFlags]

theorem ReadEffect.registersKept (h : ReadEffect mnemonic f) (accumulator : Prop) (m : Byte) (s : State) :
    RegistersKept mnemonic accumulator s (f m s) := by
  cases h with
  | adc => rw [(addWithCarry_frame m s).1]; simp [RegistersKept]
  | sbc => rw [(subtractWithBorrow_frame m s).1]; simp [RegistersKept]
  | and => simp [RegistersKept, andToA]
  | ora => simp [RegistersKept, orToA]
  | eor => simp [RegistersKept, eorToA]
  | lda => simp [RegistersKept, loadA]
  | ldx => simp [RegistersKept, loadX]
  | ldy => simp [RegistersKept, loadY]
  | bit | cmp | cpx | cpy | tst n => exact registersKept_of_eq _ (fun _ => rfl) rfl rfl rfl

/-- A reading instruction's effect leaves memory, pc, the chip and the environment's input. -/
theorem ReadEffect.frame (h : ReadEffect mnemonic f) (m : Byte) (s : State) :
    f m s = { s with
      a := (f m s).a, x := (f m s).x, y := (f m s).y, p := (f m s).p, draws := (f m s).draws } ∧
    s.draws ≤ (f m s).draws := by
  cases h with
  | adc =>
    obtain ⟨heq, hdraws⟩ := addWithCarry_frame m s
    exact ⟨by rw [heq], hdraws⟩
  | sbc =>
    obtain ⟨heq, hdraws⟩ := subtractWithBorrow_frame m s
    exact ⟨by rw [heq], hdraws⟩
  | _ => exact ⟨rfl, le_rfl⟩

theorem ReadEffect.keeps (h : ReadEffect mnemonic f) (m : Byte) (s : State) : Keeps s (f m s) := by
  obtain ⟨heq, hdraws⟩ := h.frame m s
  exact .of_registers (by rw [heq]) (by rw [heq]) (by rw [heq]) (by rw [heq]) hdraws

end

theorem ModifyEffect.flagsKept {mnemonic : String} {f : Byte → Flags → Byte × Flags} (h : ModifyEffect mnemonic f)
    (v : Byte) (p : Flags) : FlagsKept mnemonic p (f v p).2 := by
  cases h with
  | asl => simp [FlagsKept, aslResult]
  | lsr => simp [FlagsKept, lsrResult]
  | rol => simp [FlagsKept, rolResult]
  | ror => simp [FlagsKept, rorResult]
  | inc => simp [FlagsKept, incResult]
  | dec => simp [FlagsKept, decResult]
  | clr n | set n | inv n => exact flagsKept_refl _ p

section
variable {mnemonic : String} {f : State → State}

theorem ImpliedEffect.flagsKept (h : ImpliedEffect mnemonic f) (s : State) : FlagsKept mnemonic s.p (f s).p := by
  cases h with
  | inx => simp [FlagsKept, incrementX]
  | iny => simp [FlagsKept, incrementY]
  | dex => simp [FlagsKept, decrementX]
  | dey => simp [FlagsKept, decrementY]
  | clc => simp [FlagsKept, clearC]
  | cld => simp [FlagsKept, clearD]
  | cli => simp [FlagsKept, clearI]
  | clv => simp [FlagsKept, clearV]
  | sec => simp [FlagsKept, setC]
  | sed => simp [FlagsKept, setD]
  | sei => simp [FlagsKept, setI]
  | tax => simp [FlagsKept, transferAX]
  | tay => simp [FlagsKept, transferAY]
  | tsx => simp [FlagsKept, transferSX]
  | txa => simp [FlagsKept, transferXA]
  | tya => simp [FlagsKept, transferYA]
  | nop | txs => exact flagsKept_refl _ _

theorem ImpliedEffect.registersKept (h : ImpliedEffect mnemonic f) (accumulator : Prop) (s : State) :
    RegistersKept mnemonic accumulator s (f s) := by
  cases h with
  | inx => simp [RegistersKept, incrementX]
  | iny => simp [RegistersKept, incrementY]
  | dex => simp [RegistersKept, decrementX]
  | dey => simp [RegistersKept, decrementY]
  | tax => simp [RegistersKept, transferAX]
  | tay => simp [RegistersKept, transferAY]
  | tsx => simp [RegistersKept, transferSX]
  | txa => simp [RegistersKept, transferXA]
  | txs => simp [RegistersKept, transferXS]
  | tya => simp [RegistersKept, transferYA]
  | clc | cld | cli | clv | sec | sed | sei | nop => exact registersKept_of_eq _ (fun _ => rfl) rfl rfl rfl

theorem ImpliedEffect.frame (h : ImpliedEffect mnemonic f) (s : State) :
    f s = { s with a := (f s).a, x := (f s).x, y := (f s).y, sp := (f s).sp, p := (f s).p } := by
  cases h <;> rfl

theorem ImpliedEffect.keeps (h : ImpliedEffect mnemonic f) (s : State) : Keeps s (f s) := by
  rw [h.frame s]
  exact .of_registers rfl rfl rfl rfl le_rfl

end

/-! ## What an instruction that completes does -/

section
variable {s t : State}

theorem jumpIndirect_cases {aaaa : Addr} (h : jumpIndirect aaaa s = .next t) :
    ∃ high target s1, jmpPointerHigh s.chip aaaa = some high ∧ read16 s aaaa high = .ok (target, s1) ∧
      t = { s1 with pc := target } := by
  unfold jumpIndirect at h
  split at h
  · cases h
  · rename_i high hhigh
    simp only [outcome_eq_next, bind_eq_ok] at h
    obtain ⟨⟨target, s1⟩, hread, heq⟩ := h
    exact ⟨high, target, s1, hhigh, hread, (Except.ok.inj heq).symm⟩

theorem jumpSubroutine_cases {aaaa : Addr} (h : jumpSubroutine aaaa s = .next t) :
    ∃ s1, pushAddr s (s.pc + 2#16) = .ok s1 ∧ t = { s1 with pc := aaaa } := by
  simp only [jumpSubroutine, outcome_eq_next, bind_eq_ok] at h
  obtain ⟨s1, hpush, heq⟩ := h
  exact ⟨s1, hpush, (Except.ok.inj heq).symm⟩

theorem returnSubroutine_cases (h : returnSubroutine s = .next t) :
    ∃ saved s1, pullAddr s = .ok (saved, s1) ∧ t = { s1 with pc := saved + 1#16 } := by
  simp only [returnSubroutine, outcome_eq_next, bind_eq_ok] at h
  obtain ⟨⟨saved, s1⟩, hpull, heq⟩ := h
  exact ⟨saved, s1, hpull, (Except.ok.inj heq).symm⟩

theorem pushA_cases (h : outcome (pushA s) = .next t) : ∃ s1, push s s.a = .ok s1 ∧ t = advance s1 1 := by
  simp only [pushA, outcome_eq_next, bind_eq_ok] at h
  obtain ⟨s1, hpush, heq⟩ := h
  exact ⟨s1, hpush, (Except.ok.inj heq).symm⟩

theorem pushP_cases (h : outcome (pushP s) = .next t) : ∃ s1, pushStatus s = .ok s1 ∧ t = advance s1 1 := by
  simp only [pushP, outcome_eq_next, bind_eq_ok] at h
  obtain ⟨s1, hpush, heq⟩ := h
  exact ⟨s1, hpush, (Except.ok.inj heq).symm⟩

theorem pullA_cases (h : outcome (pullA s) = .next t) :
    ∃ v s1, pull s = .ok (v, s1) ∧ t = advance { s1 with a := v, p := setNZ v s1.p } 1 := by
  simp only [pullA, outcome_eq_next, bind_eq_ok] at h
  obtain ⟨⟨v, s1⟩, hpull, heq⟩ := h
  exact ⟨v, s1, hpull, (Except.ok.inj heq).symm⟩

theorem pullP_cases (h : outcome (pullP s) = .next t) : ∃ s1, pullStatus s = .ok s1 ∧ t = advance s1 1 := by
  simp only [pullP, outcome_eq_next, bind_eq_ok] at h
  obtain ⟨s1, hpull, heq⟩ := h
  exact ⟨s1, hpull, (Except.ok.inj heq).symm⟩

theorem pushAddr_frame {addr : Addr} (h : pushAddr s addr = .ok t) :
    t = { s with sp := s.sp - 1#8 - 1#8, mem := t.mem } := by
  obtain ⟨s1, hhi, hlo⟩ := pushAddr_cases h
  rw [push_frame hlo, push_frame hhi]

theorem pullAddr_frame {addr : Addr} (h : pullAddr s = .ok (addr, t)) :
    t = { s with sp := s.sp + 1#8 + 1#8, draws := t.draws } := by
  obtain ⟨lo, s1, hi, hlo, hhi, _⟩ := pullAddr_cases h
  rw [pull_frame hhi, pull_frame hlo]

theorem pushStatus_frame (h : pushStatus s = .ok t) :
    t = { s with sp := s.sp - 1#8, mem := t.mem, draws := t.draws } := by
  rw [push_frame (pushStatus_cases h), statusByte_frame s]

theorem pullStatus_frame (h : pullStatus s = .ok t) :
    t = { s with sp := s.sp + 1#8, p := t.p, draws := t.draws } := by
  obtain ⟨b, s1, hb, rfl⟩ := pullStatus_cases h
  rw [pull_frame hb]

end

/-- The state that an instruction leaves, by its mnemonic: what its operation wrote, and everything else as in `s`. -/
inductive Leaves (i : Instr) (s : State) : State → Prop
  | read {f : Byte → State → State} (effect : ReadEffect i.mnemonic f) (m : Byte) (n : Nat) :
      Leaves i s (advance (f m { s with draws := n }) i.length)
  | store {v : State → Byte} (effect : StoreEffect i.mnemonic v) (mode : i.mode ≠ .acc) (mem : Memory) (n : Nat) :
      Leaves i s (advance { s with mem := mem, draws := n } i.length)
  | modify {f : Byte → Flags → Byte × Flags} (effect : ModifyEffect i.mnemonic f) (mode : i.mode ≠ .acc) (v : Byte)
      (mem : Memory) (n : Nat) : Leaves i s (advance { s with p := (f v s.p).2, mem := mem, draws := n } i.length)
  | accumulator {f : Byte → Flags → Byte × Flags} (effect : ModifyEffect i.mnemonic f) (mode : i.mode = .acc) :
      Leaves i s (advance { s with a := (f s.a s.p).1, p := (f s.a s.p).2 } i.length)
  | implied {f : State → State} (effect : ImpliedEffect i.mnemonic f) : Leaves i s (advance (f s) i.length)
  | branch {condition : Flags → Bool} (effect : BranchEffect i.mnemonic condition) (pc : Addr) :
      Leaves i s { s with pc := pc }
  | jump (mnemonic : i.mnemonic = "JMP") (pc : Addr) (n : Nat) : Leaves i s { s with pc := pc, draws := n }
  | call (mnemonic : i.mnemonic = "JSR") (mode : i.mode ≠ .acc) (pc : Addr) (sp : Byte) (mem : Memory) :
      Leaves i s { s with pc := pc, sp := sp, mem := mem }
  | returnSubroutine (mnemonic : i.mnemonic = "RTS") (pc : Addr) (sp : Byte) (n : Nat) :
      Leaves i s { s with pc := pc, sp := sp, draws := n }
  | returnInterrupt (mnemonic : i.mnemonic = "RTI") (pc : Addr) (sp : Byte) (p : Flags) (n : Nat) :
      Leaves i s { s with pc := pc, sp := sp, p := p, draws := n }
  | push (mnemonic : i.mnemonic = "PHA" ∨ i.mnemonic = "PHP") (mode : i.mode ≠ .acc) (sp : Byte) (mem : Memory) (n : Nat) :
      Leaves i s (advance { s with sp := sp, mem := mem, draws := n } i.length)
  | pullA (mnemonic : i.mnemonic = "PLA") (v sp : Byte) (n : Nat) :
      Leaves i s (advance { s with a := v, sp := sp, p := setNZ v s.p, draws := n } i.length)
  | pullP (mnemonic : i.mnemonic = "PLP") (sp : Byte) (p : Flags) (n : Nat) :
      Leaves i s (advance { s with sp := sp, p := p, draws := n } i.length)

theorem leaves_of_exec {i : Instr} {s t : State} (h : exec i s = .next t) : Leaves i s t := by
  cases runsAs i with
  | read o f effect run length =>
    obtain ⟨m, s1, hread, rfl⟩ := readOp_cases (run ▸ h)
    rw [readOperand_frame hread, ← length]
    exact .read effect m _
  | store place v effect mode run length =>
    obtain ⟨ea, s1, s2, hea, hw, rfl⟩ := storeOp_cases (run ▸ h)
    rw [memWrite_frame hw, effAddr_frame hea, ← length]
    exact .store effect mode _ _
  | modify place f effect mode run length =>
    obtain ⟨ea, s1, v, s2, s3, hea, hr, hw, rfl⟩ := modifyOp_cases (run ▸ h)
    have hp : s2.p = s.p := by rw [memRead_frame hr, effAddr_frame hea]
    rw [memWrite_frame hw, hp, memRead_frame hr, effAddr_frame hea, ← length]
    exact .modify effect mode v _ _
  | accumulator f effect mode run length =>
    obtain rfl := Host.Outcome.next.inj ((accumulatorOp_next f s).symm.trans (run ▸ h))
    exact length ▸ .accumulator effect mode
  | implied f effect run length =>
    obtain rfl := Host.Outcome.next.inj ((impliedOp_next f s).symm.trans (run ▸ h))
    exact length ▸ .implied effect
  | branch condition rel effect run =>
    obtain rfl := Host.Outcome.next.inj ((run s).symm.trans h)
    split
    · exact .branch effect _
    · exact .branch effect _
  | jump aaaa instr =>
    subst instr
    obtain rfl := Host.Outcome.next.inj h
    exact .jump rfl aaaa s.draws
  | jumpIndirect aaaa instr =>
    subst instr
    obtain ⟨_, target, s1, _, hread, rfl⟩ := jumpIndirect_cases h
    rw [read16_frame hread]
    exact .jump rfl target _
  | call aaaa instr =>
    subst instr
    obtain ⟨s1, hpush, rfl⟩ := jumpSubroutine_cases h
    rw [pushAddr_frame hpush]
    exact .call rfl (by simp [Instr.mode]) aaaa _ _
  | returnSubroutine instr =>
    subst instr
    obtain ⟨saved, s1, hpull, rfl⟩ := returnSubroutine_cases h
    rw [pullAddr_frame hpull]
    exact .returnSubroutine rfl _ _ _
  | returnInterrupt instr =>
    subst instr
    obtain ⟨s1, target, s2, hp, hpc, rfl⟩ := returnFromInterrupt_cases (outcome_eq_next.1 h)
    rw [pullAddr_frame hpc, pullStatus_frame hp]
    exact .returnInterrupt rfl _ _ _ _
  | pushA instr =>
    subst instr
    obtain ⟨s1, hpush, rfl⟩ := pushA_cases h
    rw [push_frame hpush]
    exact .push (.inl rfl) (by simp [Instr.mode]) _ _ s.draws
  | pushP instr =>
    subst instr
    obtain ⟨s1, hpush, rfl⟩ := pushP_cases h
    rw [pushStatus_frame hpush]
    exact .push (.inr rfl) (by simp [Instr.mode]) _ _ _
  | pullA instr =>
    subst instr
    obtain ⟨v, s1, hpull, rfl⟩ := pullA_cases h
    rw [pull_frame hpull]
    exact .pullA rfl v _ _
  | pullP instr =>
    subst instr
    obtain ⟨s1, hpull, rfl⟩ := pullP_cases h
    rw [pullStatus_frame hpull]
    exact .pullP rfl _ _ _

theorem exec_keeps {i : Instr} {s t : State} (h : exec i s = .next t) : Keeps s t := by
  cases runsAs i with
  | read o f effect run length =>
    obtain ⟨m, s1, hread, rfl⟩ := readOp_cases (run ▸ h)
    exact ((readOperand_keeps hread).trans (effect.keeps m s1)).advance _
  | store place v effect mode run length =>
    obtain ⟨ea, s1, s2, hea, hw, rfl⟩ := storeOp_cases (run ▸ h)
    exact ((effAddr_keeps hea).trans (memWrite_keeps hw)).advance _
  | modify place f effect mode run length =>
    obtain ⟨ea, s1, v, s2, s3, hea, hr, hw, rfl⟩ := modifyOp_cases (run ▸ h)
    exact ((((effAddr_keeps hea).trans (memRead_keeps hr)).trans (memWrite_keeps hw)).setP _).advance _
  | accumulator f effect mode run length =>
    obtain rfl := Host.Outcome.next.inj ((accumulatorOp_next f s).symm.trans (run ▸ h))
    exact .of_registers rfl rfl rfl rfl le_rfl
  | implied f effect run length =>
    obtain rfl := Host.Outcome.next.inj ((impliedOp_next f s).symm.trans (run ▸ h))
    exact (effect.keeps s).advance 1
  | branch condition rel effect run =>
    obtain rfl := Host.Outcome.next.inj ((run s).symm.trans h)
    split
    · exact (Keeps.refl s).setPc _
    · exact (Keeps.refl s).advance 2
  | jump aaaa instr =>
    subst instr
    obtain rfl := Host.Outcome.next.inj h
    exact (Keeps.refl s).setPc aaaa
  | jumpIndirect aaaa instr =>
    subst instr
    obtain ⟨_, target, s1, _, hread, rfl⟩ := jumpIndirect_cases h
    exact (read16_keeps hread).setPc target
  | call aaaa instr =>
    subst instr
    obtain ⟨s1, hpush, rfl⟩ := jumpSubroutine_cases h
    exact (pushAddr_keeps hpush).setPc aaaa
  | returnSubroutine instr =>
    subst instr
    obtain ⟨saved, s1, hpull, rfl⟩ := returnSubroutine_cases h
    exact (pullAddr_keeps hpull).setPc _
  | returnInterrupt instr =>
    subst instr
    exact returnFromInterrupt_keeps (outcome_eq_next.1 h)
  | pushA instr =>
    subst instr
    obtain ⟨s1, hpush, rfl⟩ := pushA_cases h
    exact (push_keeps hpush).advance 1
  | pushP instr =>
    subst instr
    obtain ⟨s1, hpush, rfl⟩ := pushP_cases h
    exact (pushStatus_keeps hpush).advance 1
  | pullA instr =>
    subst instr
    obtain ⟨v, s1, hpull, rfl⟩ := pullA_cases h
    exact (pull_keeps hpull).trans (.of_registers rfl rfl rfl rfl le_rfl)
  | pullP instr =>
    subst instr
    obtain ⟨s1, hpull, rfl⟩ := pullP_cases h
    exact (pullStatus_keeps hpull).advance 1

/-- A step keeps all of it, from the state in which the environment has moved on to its next input. -/
theorem step_keeps {s t : State} (h : step s = .next t) : Keeps (nextInput s) t := by
  rcases step_cases h with ⟨_, henter⟩ | ⟨_, i, s1, hfetch, hexec⟩
  · exact enterInterrupt_keeps henter
  · have hdraws : (nextInput s).draws ≤ s1.draws := by
      obtain ⟨_, _, _, hb, _, _, hcase⟩ := fetch_cases hfetch
      rcases hcase with ⟨_, rfl⟩ | ⟨_, _, _, hb1, _⟩ | ⟨_, _, _, _, _, hb1, hb2, _⟩
      · exact (memRead_keeps hb).draws
      · exact ((memRead_keeps hb).trans (memRead_keeps hb1)).draws
      · exact (((memRead_keeps hb).trans (memRead_keeps hb1)).trans (memRead_keeps hb2)).draws
    have heq := fetch_frame hfetch
    exact (Keeps.of_registers (by rw [heq]) (by rw [heq]) (by rw [heq]) (by rw [heq]) hdraws).trans (exec_keeps hexec)

/-! ## The invariants of every step -/

/-- Settles O16: every operation keeps the canonical form. -/
theorem stepKeepsCanonicalMemory : Obligations.StepKeepsCanonicalMemory :=
  fun s _ hwf h => (step_keeps h).wf (by rwa [nextInput_mem s])

/-- Settles O18: no operation writes the chip. -/
theorem stepNeverChangesTheChip : Obligations.StepNeverChangesTheChip :=
  fun s _ h => (step_keeps h).chip.trans (nextInput_chip s)

/-- Settles O19: a write outside RAM stores nothing. -/
theorem stepNeverChangesBytesOutsideRam : Obligations.StepNeverChangesBytesOutsideRam :=
  fun s _ addr hk h => ((step_keeps h).byteAt addr (by rwa [nextInput_kindAt])).trans (nextInput_byteAt s addr)

/-- Settles O17: reset lists no byte, and the start of a run reads at most. -/
theorem resetMemoryIsCanonical : Obligations.ResetMemoryIsCanonical := by
  refine ⟨reset_mem_wf, fun chip mem irq irqNext t hwf h => ?_⟩
  unfold resetRun at h
  split at h
  · cases h
  · obtain rfl := Host.Outcome.next.inj h
    exact hwf
  · split at h
    · rename_i hread
      obtain rfl := Host.Outcome.next.inj h
      exact (read16_keeps hread).wf hwf
    · cases h

theorem enterInterrupt_p {s t : State} (h : enterInterrupt s = .ok t) : t.p = { s.p with i := true } := by
  obtain ⟨s1, s2, vector, target, s3, hpc, hp, _, hvector, rfl⟩ := enterInterrupt_cases h
  have hp3 : s3.p = { s2.p with i := true } := by rw [read16_frame hvector]
  have hp2 : s2.p = s.p := by rw [pushStatus_frame hp, pushAddr_frame hpc]
  rw [hp3, hp2]

/-- Settles O20: the flags of the state that each kind of operation leaves. -/
theorem flagsChangeOnlyByTheirWriters : Obligations.FlagsChangeOnlyByTheirWriters := by
  refine ⟨fun i s t h => ?_, fun s t h => enterInterrupt_p h⟩
  show FlagsKept i.mnemonic s.p t.p
  cases leaves_of_exec h with
  | read effect m n => exact effect.flagsKept m { s with draws := n }
  | modify effect mode v mem n => exact effect.flagsKept v s.p
  | accumulator effect mode => exact effect.flagsKept s.a s.p
  | implied effect => exact effect.flagsKept s
  | returnInterrupt mnemonic pc sp p n => simp [FlagsKept, mnemonic]
  | pullA mnemonic v sp n => simp [FlagsKept, mnemonic]
  | pullP mnemonic sp p n => simp [FlagsKept, mnemonic]
  | store | branch | jump | call | returnSubroutine | push => exact flagsKept_refl _ _

/-- Settles O21: the registers of the state that each kind of operation leaves. -/
theorem registersChangeOnlyByTheirWriters : Obligations.RegistersChangeOnlyByTheirWriters := by
  intro i s t h
  show RegistersKept i.mnemonic (i.mode = .acc) s t
  cases leaves_of_exec h with
  | read effect m n => exact effect.registersKept _ m { s with draws := n }
  | accumulator effect mode => exact registersKept_of_eq _ (fun hno => absurd mode hno) rfl rfl rfl
  | implied effect => exact effect.registersKept _ s
  | call mnemonic mode pc sp mem => simp [RegistersKept, mnemonic]
  | returnSubroutine mnemonic pc sp n => simp [RegistersKept, mnemonic]
  | returnInterrupt mnemonic pc sp p n => simp [RegistersKept, mnemonic]
  | push mnemonic mode sp mem n => rcases mnemonic with hm | hm <;> simp [RegistersKept, hm]
  | pullA mnemonic v sp n => simp [RegistersKept, mnemonic]
  | pullP mnemonic sp p n => simp [RegistersKept, mnemonic]
  | store | modify | branch | jump => exact registersKept_of_eq _ (fun _ => rfl) rfl rfl rfl

/-- The mnemonics that store (20_memory.md section 5). -/
def storingMnemonics : List String :=
  ["STA", "STX", "STY", "ASL", "LSR", "ROL", "ROR", "INC", "DEC", "CLR", "SET", "INV", "PHA", "PHP", "JSR"]

theorem StoreEffect.mem_storing {mnemonic : String} {v : State → Byte} (h : StoreEffect mnemonic v) :
    mnemonic ∈ storingMnemonics := by cases h <;> decide

theorem ModifyEffect.mem_storing {mnemonic : String} {f : Byte → Flags → Byte × Flags} (h : ModifyEffect mnemonic f) :
    mnemonic ∈ storingMnemonics := by cases h <;> simp [storingMnemonics]

/-- Settles O22: the operations that leave another memory are those of the storing mnemonics, in no accumulator form. -/
theorem memoryChangesOnlyByStoringInstructions : Obligations.MemoryChangesOnlyByStoringInstructions := by
  intro i s t h
  have hkeeps := exec_keeps h
  refine ⟨fun hno => ?_, hkeeps.irq, hkeeps.irqNext⟩
  have hno' : i.mnemonic ∈ storingMnemonics → i.mode = .acc := fun hin => hno.resolve_left fun hout => hout hin
  cases leaves_of_exec h with
  | store effect mode mem n => exact absurd (hno' effect.mem_storing) mode
  | modify effect mode v mem n => exact absurd (hno' effect.mem_storing) mode
  | call mnemonic mode pc sp mem => exact absurd (hno' (by simp [mnemonic, storingMnemonics])) mode
  | push mnemonic mode sp mem n =>
    exact absurd (hno' (by rcases mnemonic with hm | hm <;> simp [hm, storingMnemonics])) mode
  | read effect m n => rw [advance_mem, (effect.frame m _).1]
  | implied effect => rw [advance_mem, effect.frame s]
  | accumulator | branch | jump | returnSubroutine | returnInterrupt | pullA | pullP => rfl

theorem encode_length (map : OpMap) (i : Instr) : (encode map i).length = i.length := by
  rw [encode_eq, List.length_cons, operandBytes_length]

theorem BranchEffect.mnemonic_mem {mnemonic : String} {condition : Flags → Bool} (h : BranchEffect mnemonic condition) :
    mnemonic ∈ ["BCC", "BCS", "BEQ", "BMI", "BNE", "BPL", "BVC", "BVS"] := by cases h <;> decide

/-- Settles O23: every operation but the branches, the jumps, the call and the returns ends with `advance`. -/
theorem pcAdvancesByLength : Obligations.PcAdvancesByLength := by
  intro i s t hno h
  have hpc : t.pc = s.pc + BitVec.ofNat 16 i.length := by
    cases leaves_of_exec h with
    | read effect m n => rw [advance_pc, (effect.frame m _).1]
    | implied effect => rw [advance_pc, effect.frame s]
    | store | modify | accumulator | push | pullA | pullP => rfl
    | branch effect pc => exact absurd (List.mem_append_left _ effect.mnemonic_mem) hno
    | jump mnemonic pc n => simp [mnemonic] at hno
    | call mnemonic mode pc sp mem => simp [mnemonic] at hno
    | returnSubroutine mnemonic pc sp n => simp [mnemonic] at hno
    | returnInterrupt mnemonic pc sp p n => simp [mnemonic] at hno
  rw [hpc, encode_length, BitVec.toNat_add, BitVec.toNat_ofNat, Nat.add_mod_mod]

end Sys2Proof.Laws

namespace Sys2Proof.Laws

open Sys2Proof.Machine Sys2Proof.Claims

/-! ## Words and the stack: when an access completes and what it then gives (R9, R30, R31, R55) -/

section
variable {s t : State} {addr : Addr} {v : Byte}

theorem holdsByte_congr (h : t.chip = s.chip) (addr : Addr) : HoldsByte t addr ↔ HoldsByte s addr := by
  simp only [HoldsByte, kindAt_congr h]

theorem memRead_keeps_byteAt (h : memRead s addr = .ok (v, t)) (b : Addr) : t.byteAt b = s.byteAt b :=
  byteAt_congr (by rw [memRead_frame h]) b

theorem read16_completes {lo hi : Addr} (hlo : s.kindAt lo ≠ .unmapped) (hhi : s.kindAt hi ≠ .unmapped) :
    ∃ target t, read16 s lo hi = .ok (target, t) := by
  obtain ⟨l, s1, hl⟩ := memRead_completes hlo
  obtain ⟨h, s2, hh⟩ := memRead_completes (s := s1) (addr := hi) (by rwa [memRead_kindAt hl])
  exact ⟨_, s2, by simp only [read16, hl, hh, ok_bind]; rfl⟩

theorem read16_low_unmapped {lo : Addr} (hi : Addr) (hlo : s.kindAt lo = .unmapped) :
    read16 s lo hi = .error (.unmappedRead lo) := by
  simp only [read16, memRead_unmapped s lo hlo, error_bind]

theorem read16_high_unmapped {lo hi : Addr} (hlo : s.kindAt lo ≠ .unmapped) (hhi : s.kindAt hi = .unmapped) :
    read16 s lo hi = .error (.unmappedRead hi) := by
  obtain ⟨l, s1, hl⟩ := memRead_completes hlo
  simp only [read16, hl, ok_bind, memRead_unmapped s1 hi ((memRead_kindAt hl hi).trans hhi), error_bind]

/-- The two halves of a word read, each the byte held at its address if one is. -/
theorem read16_bytes {lo hi target : Addr} (h : read16 s lo hi = .ok (target, t)) :
    ∃ l u : Byte, target = addrOf u l ∧ (HoldsByte s lo → l = s.byteAt lo) ∧ (HoldsByte s hi → u = s.byteAt hi) ∧
      (HoldsByte s lo → HoldsByte s hi → t = s) := by
  obtain ⟨l, s1, u, hl, hu, rfl⟩ := read16_cases h
  have high (hh : HoldsByte s hi) := memRead_held hu ((holdsByte_congr (memRead_chip hl) hi).2 hh)
  exact ⟨l, u, rfl, fun hh => (memRead_held hl hh).1, fun hh => (high hh).1.trans (memRead_keeps_byteAt hl hi),
    fun hlo hhi => (high hhi).2.trans (memRead_held hl hlo).2⟩

theorem push_completes (v : Byte) (h : s.kindAt (stackAddr s) ≠ .unmapped) : ∃ t, push s v = .ok t := by
  obtain ⟨s1, hw⟩ := memWrite_completes v h
  exact ⟨_, by simp only [push, hw, ok_bind]; rfl⟩

theorem push_unmapped (v : Byte) (h : s.kindAt (stackAddr s) = .unmapped) :
    push s v = .error (.unmappedWrite (stackAddr s)) := by
  simp only [push, memWrite_unmapped s _ v h, error_bind]

theorem push_stored (h : push s v = .ok t) : Stored s t (stackAddr s) v := by
  obtain ⟨s1, hw, rfl⟩ := push_cases h
  exact (memWrite_stored hw :)

theorem push_byteAt_other (h : push s v = .ok t) {b : Addr} (hb : b ≠ stackAddr s) : t.byteAt b = s.byteAt b := by
  obtain ⟨s1, hw, rfl⟩ := push_cases h
  exact (memWrite_byteAt hw (.inl hb) :)

theorem push_sp (h : push s v = .ok t) : t.sp = s.sp - 1#8 := by rw [push_frame h]

theorem push_stackAddr (h : push s v = .ok t) : stackAddr t = addrOf s.chip.stackPage (s.sp - 1#8) := by
  rw [push_frame h]; rfl

theorem pull_completes (h : s.kindAt (addrOf s.chip.stackPage (s.sp + 1#8)) ≠ .unmapped) :
    ∃ v t, pull s = .ok (v, t) := memRead_completes (s := { s with sp := s.sp + 1#8 }) h

theorem pull_unmapped (h : s.kindAt (addrOf s.chip.stackPage (s.sp + 1#8)) = .unmapped) :
    pull s = .error (.unmappedRead (addrOf s.chip.stackPage (s.sp + 1#8))) :=
  memRead_unmapped { s with sp := s.sp + 1#8 } _ h

theorem pull_holdsByte (h : HoldsByte s (addrOf s.chip.stackPage (s.sp + 1#8))) :
    pull s = .ok (s.byteAt (addrOf s.chip.stackPage (s.sp + 1#8)), { s with sp := s.sp + 1#8 }) :=
  memRead_holdsByte (s := { s with sp := s.sp + 1#8 }) h

theorem pull_chip (h : pull s = .ok (v, t)) : t.chip = s.chip := by rw [pull_frame h]

theorem pull_sp (h : pull s = .ok (v, t)) : t.sp = s.sp + 1#8 := by rw [pull_frame h]

theorem sub_one_sub_one (b : Byte) : b - 1#8 - 1#8 = b - 2#8 := by
  rw [BitVec.sub_sub]
  rfl

theorem add_one_add_one (b : Byte) : b + 1#8 + 1#8 = b + 2#8 := by
  rw [BitVec.add_assoc]
  rfl

theorem add_one_add_two (b : Byte) : b + 1#8 + 2#8 = b + 3#8 := by
  rw [BitVec.add_assoc]
  rfl

theorem sub_one_ne (b : Byte) : b - 1#8 ≠ b := by
  intro h
  have := congrArg BitVec.toNat h
  simp only [BitVec.toNat_sub, BitVec.toNat_ofNat] at this
  have := b.isLt
  omega

theorem sub_two_ne (b : Byte) : b - 2#8 ≠ b := by
  intro h
  have := congrArg BitVec.toNat h
  simp only [BitVec.toNat_sub, BitVec.toNat_ofNat] at this
  have := b.isLt
  omega

/-- A later operation that leaves the location leaves what was stored there. -/
theorem stored_andThen {u : State} (h : Stored s t addr v) (hsame : u.byteAt addr = t.byteAt addr) :
    Stored s u addr v :=
  ⟨fun hk => hsame.trans (h.1 hk), fun hk => hsame.trans (h.2 hk)⟩

/-- An earlier operation that leaves the location does not matter to what is stored there. -/
theorem stored_after {u : State} (h : Stored t u addr v) (hchip : t.chip = s.chip)
    (hsame : t.byteAt addr = s.byteAt addr) : Stored s u addr v := by
  unfold Stored at *
  rwa [kindAt_congr hchip, hsame] at h

theorem pushAddr_completes (w : Addr) (hfirst : s.kindAt (addrOf s.chip.stackPage s.sp) ≠ .unmapped)
    (hsecond : s.kindAt (addrOf s.chip.stackPage (s.sp - 1#8)) ≠ .unmapped) : ∃ t, pushAddr s w = .ok t := by
  obtain ⟨s1, h1⟩ := push_completes (hiByte w) hfirst
  obtain ⟨s2, h2⟩ := push_completes (s := s1) (loByte w)
    (by rwa [push_stackAddr h1, kindAt_congr (push_keeps h1).chip])
  exact ⟨s2, by simp only [pushAddr, h1, ok_bind, h2]⟩

theorem pushAddr_first_unmapped (w : Addr) (hfirst : s.kindAt (addrOf s.chip.stackPage s.sp) = .unmapped) :
    pushAddr s w = .error (.unmappedWrite (addrOf s.chip.stackPage s.sp)) := by
  simp only [pushAddr, push_unmapped (hiByte w) hfirst, error_bind]
  rfl

theorem pushAddr_second_unmapped (w : Addr) (hfirst : s.kindAt (addrOf s.chip.stackPage s.sp) ≠ .unmapped)
    (hsecond : s.kindAt (addrOf s.chip.stackPage (s.sp - 1#8)) = .unmapped) :
    pushAddr s w = .error (.unmappedWrite (addrOf s.chip.stackPage (s.sp - 1#8))) := by
  obtain ⟨s1, h1⟩ := push_completes (hiByte w) hfirst
  have hk : s1.kindAt (stackAddr s1) = .unmapped := by rwa [push_stackAddr h1, kindAt_congr (push_keeps h1).chip]
  simp only [pushAddr, h1, ok_bind, push_unmapped (loByte w) hk, push_stackAddr h1]

/-- A pushed word lies with its high byte at SP and its low byte below it, and no other byte changes. -/
theorem pushAddr_stored {w : Addr} (h : pushAddr s w = .ok t) :
    Stored s t (addrOf s.chip.stackPage s.sp) (hiByte w) ∧
    Stored s t (addrOf s.chip.stackPage (s.sp - 1#8)) (loByte w) ∧
    ∀ b, b ≠ addrOf s.chip.stackPage s.sp → b ≠ addrOf s.chip.stackPage (s.sp - 1#8) → t.byteAt b = s.byteAt b := by
  obtain ⟨s1, h1, h2⟩ := pushAddr_cases h
  have hsecond := push_stackAddr h1
  have hne : addrOf s.chip.stackPage (s.sp - 1#8) ≠ addrOf s.chip.stackPage s.sp :=
    fun he => sub_one_ne s.sp (addrOf_inj.1 he)
  refine ⟨stored_andThen (push_stored h1) (push_byteAt_other h2 (hsecond ▸ hne.symm)), ?_, fun b hb hb' => ?_⟩
  · exact stored_after (hsecond ▸ push_stored h2) (push_keeps h1).chip (push_byteAt_other h1 hne)
  · exact (push_byteAt_other h2 (hsecond ▸ hb')).trans (push_byteAt_other h1 hb)

/-- Two bytes pulled in turn are the word they make. -/
theorem pullAddr_of_pulls {s1 s2 : State} {lo hi : Byte} (hlo : pull s = .ok (lo, s1)) (hhi : pull s1 = .ok (hi, s2)) :
    pullAddr s = .ok (addrOf hi lo, s2) := by
  simp only [pullAddr, hlo, hhi, ok_bind]
  rfl

theorem pullAddr_completes (hfirst : s.kindAt (addrOf s.chip.stackPage (s.sp + 1#8)) ≠ .unmapped)
    (hsecond : s.kindAt (addrOf s.chip.stackPage (s.sp + 2#8)) ≠ .unmapped) : ∃ w t, pullAddr s = .ok (w, t) := by
  obtain ⟨lo, s1, hlo⟩ := pull_completes hfirst
  obtain ⟨hi, s2, hhi⟩ := pull_completes (s := s1)
    (by rwa [kindAt_congr (pull_chip hlo), pull_chip hlo, pull_sp hlo, add_one_add_one])
  exact ⟨_, s2, pullAddr_of_pulls hlo hhi⟩

theorem pullAddr_first_unmapped (hfirst : s.kindAt (addrOf s.chip.stackPage (s.sp + 1#8)) = .unmapped) :
    pullAddr s = .error (.unmappedRead (addrOf s.chip.stackPage (s.sp + 1#8))) := by
  simp only [pullAddr, pull_unmapped hfirst, error_bind]

theorem pullAddr_second_unmapped (hfirst : s.kindAt (addrOf s.chip.stackPage (s.sp + 1#8)) ≠ .unmapped)
    (hsecond : s.kindAt (addrOf s.chip.stackPage (s.sp + 2#8)) = .unmapped) :
    pullAddr s = .error (.unmappedRead (addrOf s.chip.stackPage (s.sp + 2#8))) := by
  obtain ⟨lo, s1, hlo⟩ := pull_completes hfirst
  have haddr : addrOf s1.chip.stackPage (s1.sp + 1#8) = addrOf s.chip.stackPage (s.sp + 2#8) := by
    rw [pull_chip hlo, pull_sp hlo, add_one_add_one]
  have hk : s1.kindAt (addrOf s1.chip.stackPage (s1.sp + 1#8)) = .unmapped := by
    rwa [haddr, kindAt_congr (pull_chip hlo)]
  simp only [pullAddr, hlo, ok_bind, pull_unmapped hk, error_bind, haddr]

/-- A read does not depend on the flags. -/
theorem pull_setP (p : Flags) (h : pull s = .ok (v, t)) : pull { s with p := p } = .ok (v, { t with p := p }) := by
  rcases memRead_cases (pull_cases h) with ⟨hk, rfl, rfl⟩ | ⟨hk, rfl, rfl⟩
  · exact memRead_holdsByte (s := { s with sp := s.sp + 1#8, p := p }) hk
  · exact memRead_io { s with sp := s.sp + 1#8, p := p } _ hk

end

/-! ## The status byte (R36, R37) -/

theorem getLsbD_append_ofBool {w : Nat} (x : BitVec w) (b : Bool) (k : Nat) :
    (x ++ BitVec.ofBool b).getLsbD k = if k = 0 then b else x.getLsbD (k - 1) := by
  rw [BitVec.getLsbD_append]
  cases k <;> simp

section
variable (p : Flags) (u5 u4 bit3 : Bool)

theorem flagsOfByte_byteOfFlags : flagsOfByte (byteOfFlags p u5 u4 bit3) = { p with d := bit3 } := by
  simp only [flagsOfByte, byteOfFlags, getLsbD_append_ofBool]
  simp

theorem byteOfFlags_bit5 : (byteOfFlags p u5 u4 bit3).getLsbD 5 = u5 := by
  simp only [byteOfFlags, getLsbD_append_ofBool]
  simp

theorem byteOfFlags_bit4 : (byteOfFlags p u5 u4 bit3).getLsbD 4 = u4 := by
  simp only [byteOfFlags, getLsbD_append_ofBool]
  simp

theorem byteOfFlags_bit3 : (byteOfFlags p u5 u4 bit3).getLsbD 3 = bit3 := by
  simp only [byteOfFlags, getLsbD_append_ofBool]
  simp

end

/-- The flags that a pull makes of a pushed status byte are those pushed, with D open on CPU12. -/
theorem flagsOfByte_of_pushedStatus {s : State} {b : Byte} (h : PushedStatus s b) :
    ∃ d : Bool, (s.chip.cpu ≠ .cpu12 → d = s.p.d) ∧ flagsOfByte b = { s.p with d := d } := by
  obtain ⟨hn, hv, hd, hi, hz, hc⟩ := h
  exact ⟨b.getLsbD 3, hd, by rw [flagsOfByte, hn, hv, hi, hz, hc]⟩

theorem pushedStatus_statusByte (s : State) : PushedStatus s (statusByte s).1 := by
  obtain ⟨bit3, hbit3, heq⟩ := statusByte_cases s
  have hflags := flagsOfByte_byteOfFlags s.p (Config.freeBit s.draws) (Config.freeBit (s.draws + 1)) bit3
  rw [← heq, flagsOfByte, Flags.mk.injEq] at hflags
  obtain ⟨hn, hv, hd, hi, hz, hc⟩ := hflags
  exact ⟨hn, hv, fun hcpu => hd.trans (hbit3 hcpu), hi, hz, hc⟩

theorem pushStatus_completes {s : State} (h : s.kindAt (addrOf s.chip.stackPage s.sp) ≠ .unmapped) :
    ∃ t, pushStatus s = .ok t := by
  refine push_completes (s := (statusByte s).2) (statusByte s).1 ?_
  rw [kindAt_congr (statusByte_chip s), stackAddr, statusByte_chip, statusByte_sp]
  exact h

theorem pushStatus_unmapped {s : State} (h : s.kindAt (addrOf s.chip.stackPage s.sp) = .unmapped) :
    pushStatus s = .error (.unmappedWrite (addrOf s.chip.stackPage s.sp)) := by
  have haddr : stackAddr (statusByte s).2 = addrOf s.chip.stackPage s.sp := by
    rw [stackAddr, statusByte_chip, statusByte_sp]
  rw [← haddr]
  exact push_unmapped (s := (statusByte s).2) _ (by rwa [haddr, kindAt_congr (statusByte_chip s)])

theorem pushStatus_stored {s t : State} (h : pushStatus s = .ok t) :
    ∃ status, PushedStatus s status ∧ Stored s t (addrOf s.chip.stackPage s.sp) status ∧
      ∀ b, b ≠ addrOf s.chip.stackPage s.sp → t.byteAt b = s.byteAt b := by
  have hpush := pushStatus_cases h
  have haddr : stackAddr (statusByte s).2 = addrOf s.chip.stackPage s.sp := by
    rw [stackAddr, statusByte_chip, statusByte_sp]
  have hbytes (b : Addr) : (statusByte s).2.byteAt b = s.byteAt b := byteAt_congr (statusByte_mem s) b
  refine ⟨(statusByte s).1, pushedStatus_statusByte s, ?_, fun b hb => ?_⟩
  · exact stored_after (haddr ▸ push_stored hpush) (statusByte_chip s) (hbytes _)
  · exact (push_byteAt_other hpush (haddr ▸ hb)).trans (hbytes b)

/-! ## Effective addresses and operand bytes (R63, R100 to R112) -/

theorem toNat_add_setWidth (a : Addr) (b : Byte) : (a + b.setWidth 16).toNat = (a.toNat + b.toNat) % 65536 := by
  have := b.isLt
  simp only [BitVec.toNat_add, BitVec.toNat_setWidth]
  omega

/-- Settles O26: the sums of the six direct modes in numbers. -/
theorem directEffectiveAddresses : Obligations.DirectEffectiveAddresses := by
  intro s aa aaaa
  refine ⟨⟨_, rfl, zeroPage_toNat aa⟩, ⟨_, rfl, ?_⟩, ⟨_, rfl, ?_⟩, ⟨_, rfl, rfl⟩,
    ⟨_, rfl, toNat_add_setWidth aaaa s.x⟩, ⟨_, rfl, toNat_add_setWidth aaaa s.y⟩⟩
  · rw [zeroPage_toNat, BitVec.toNat_add]
  · rw [zeroPage_toNat, BitVec.toNat_add]

theorem zeroPage_eq {q : Addr} {b : Byte} (h : q.toNat = b.toNat) : zeroPage b = q :=
  BitVec.eq_of_toNat_eq ((zeroPage_toNat b).trans h.symm)

/-- The two addresses of a pointer in page zero, in numbers. -/
theorem pointer_addresses {q q' : Addr} {b : Byte} (hq : q.toNat = b.toNat) (hq' : q'.toNat = (q.toNat + 1) % 256) :
    zeroPage b = q ∧ zeroPage (b + 1#8) = q' :=
  ⟨zeroPage_eq hq, zeroPage_eq (by rw [hq', hq, BitVec.toNat_add]; rfl)⟩

theorem effAddr_indy_error {s : State} {aa : Byte} {f : Fault} (h : readPointer s aa = .error f) :
    effAddr s (.indy aa) = .error f := by
  simp only [effAddr, h, error_bind]

theorem effAddr_indy_ok {s t : State} {aa : Byte} {base : Addr} (h : readPointer s aa = .ok (base, t)) :
    effAddr s (.indy aa) = .ok (base + t.y.setWidth 16, t) := by
  simp only [effAddr, h, ok_bind]
  rfl

/-- What reading a pointer does by the kinds of its two addresses. -/
theorem readPointer_by_kind {s : State} {b : Byte} {q q' : Addr} (hq : zeroPage b = q) (hq' : zeroPage (b + 1#8) = q') :
    (s.kindAt q = .unmapped → readPointer s b = .error (.unmappedRead q)) ∧
    (s.kindAt q ≠ .unmapped → s.kindAt q' = .unmapped → readPointer s b = .error (.unmappedRead q')) ∧
    (s.kindAt q ≠ .unmapped → s.kindAt q' ≠ .unmapped → ∃ (lo hi : Byte) (t : State),
      readPointer s b = .ok (addrOf hi lo, t) ∧ (HoldsByte s q → lo = s.byteAt q) ∧ (HoldsByte s q' → hi = s.byteAt q') ∧
      t = { s with draws := t.draws } ∧ (HoldsByte s q → HoldsByte s q' → t = s)) := by
  subst hq hq'
  refine ⟨fun h => read16_low_unmapped _ h, fun h h' => read16_high_unmapped h h', fun h h' => ?_⟩
  obtain ⟨target, t, hread⟩ := read16_completes h h'
  obtain ⟨lo, hi, rfl, hlo, hhi, hsame⟩ := read16_bytes hread
  exact ⟨lo, hi, t, hread, hlo, hhi, read16_frame hread, hsame⟩

/-- Settles O27: both modes read one pointer; the second adds Y to it. -/
theorem indirectEffectiveAddresses : Obligations.IndirectEffectiveAddresses := by
  intro s aa q q' hnext
  refine ⟨fun hq => ?indx, fun hq => ?indy⟩
  case indx =>
    have hsum : q.toNat = (aa + s.x).toNat := by rw [hq, BitVec.toNat_add]
    obtain ⟨haddr, haddr'⟩ := pointer_addresses hsum hnext
    obtain ⟨hfirst, hsecond, hboth⟩ := readPointer_by_kind (s := s) haddr haddr'
    refine ⟨hfirst, hsecond, fun h h' => ?_⟩
    obtain ⟨lo, hi, t, hread, hlo, hhi, hframe, hsame⟩ := hboth h h'
    exact ⟨_, t, lo, hi, hread, addrOf_toNat hi lo, hlo, hhi, hframe, hsame⟩
  case indy =>
    obtain ⟨haddr, haddr'⟩ := pointer_addresses hq hnext
    obtain ⟨hfirst, hsecond, hboth⟩ := readPointer_by_kind (s := s) haddr haddr'
    refine ⟨fun h => effAddr_indy_error (hfirst h), fun h h' => effAddr_indy_error (hsecond h h'), fun h h' => ?_⟩
    obtain ⟨lo, hi, t, hread, hlo, hhi, hframe, hsame⟩ := hboth h h'
    have hy : t.y = s.y := by rw [hframe]
    refine ⟨_, t, lo, hi, effAddr_indy_ok hread, ?_, hlo, hhi, hframe, hsame⟩
    rw [toNat_add_setWidth, addrOf_toNat, hy]

theorem effAddr_chip {s t : State} {place : Place} {ea : Addr} (h : effAddr s place = .ok (ea, t)) : t.chip = s.chip :=
  (effAddr_keeps h).chip

theorem effAddr_byteAt {s t : State} {place : Place} {ea : Addr} (h : effAddr s place = .ok (ea, t)) (b : Addr) :
    t.byteAt b = s.byteAt b := byteAt_congr (by rw [effAddr_frame h]) b

theorem readOperand_mem {s s1 : State} {place : Place} {ea : Addr} (h : effAddr s place = .ok (ea, s1)) :
    readOperand s (.mem place) = memRead s1 ea := by
  simp only [readOperand, h, ok_bind]

/-- Settles O28: a memory operand is one read at the effective address. -/
theorem operandByteByAddressKind : Obligations.OperandByteByAddressKind := by
  intro s s1 dd place ea
  refine ⟨rfl, fun hea => ?_⟩
  rw [readOperand_mem hea]
  have hkind := kindAt_congr (effAddr_chip hea) ea
  refine ⟨fun hheld => ?held, fun hio => ?io, fun hun => memRead_unmapped s1 ea (hkind.trans hun)⟩
  case held =>
    rw [memRead_holdsByte ((holdsByte_congr (effAddr_chip hea) ea).2 hheld), effAddr_byteAt hea]
  case io => exact ⟨_, _, memRead_io s1 ea (hkind.trans hio), rfl⟩

/-- Settles O54: the push and the pull by the kind of their location. -/
theorem pushAndPull : Obligations.PushAndPull := by
  rintro s v free next rfl rfl
  refine ⟨fun h => push_unmapped v h, fun h => ?push, fun h => pull_unmapped h, fun h => pull_holdsByte h, fun h => ?pullIo⟩
  case push =>
    obtain ⟨t, ht⟩ := push_completes v h
    refine ⟨t, ht, push_stored ht, fun b hb => push_byteAt_other ht hb, ?_, ?_⟩
    · rw [push_sp ht, toNat_decrement]
    · rw [push_frame ht]
  case pullIo => exact ⟨_, _, memRead_io { s with sp := s.sp + 1#8 } _ h, rfl⟩

end Sys2Proof.Laws

namespace Sys2Proof.Laws

open Sys2Proof.Machine Sys2Proof.Claims

/-! ## The jumps, the calls and the stack instructions, from what their accesses give -/

section
variable {s s1 s2 : State} {target : Addr} {f : Fault}

theorem exec_jmpInd_next {aaaa high : Addr} (hhigh : jmpPointerHigh s.chip aaaa = some high)
    (hread : read16 s aaaa high = .ok (target, s1)) : exec (.jmpInd aaaa) s = .next { s1 with pc := target } := by
  show jumpIndirect aaaa s = _
  simp only [jumpIndirect, hhigh, hread, ok_bind]
  rfl

theorem exec_jmpInd_fault {aaaa high : Addr} (hhigh : jmpPointerHigh s.chip aaaa = some high)
    (hread : read16 s aaaa high = .error f) : exec (.jmpInd aaaa) s = .fault f := by
  show jumpIndirect aaaa s = _
  simp only [jumpIndirect, hhigh, hread, error_bind, outcome_error]

theorem exec_jmpInd_refused {aaaa : Addr} (hhigh : jmpPointerHigh s.chip aaaa = none) :
    exec (.jmpInd aaaa) s = .refused (.jmpIndirectWrapUnset aaaa) := by
  show jumpIndirect aaaa s = _
  simp only [jumpIndirect, hhigh]

theorem exec_jsr_next (aaaa : Addr) (h : pushAddr s (s.pc + 2#16) = .ok s1) :
    exec (.jsr aaaa) s = .next { s1 with pc := aaaa } := by
  show jumpSubroutine aaaa s = _
  simp only [jumpSubroutine, h, ok_bind]
  rfl

theorem exec_jsr_fault (aaaa : Addr) (h : pushAddr s (s.pc + 2#16) = .error f) : exec (.jsr aaaa) s = .fault f := by
  show jumpSubroutine aaaa s = _
  simp only [jumpSubroutine, h, error_bind, outcome_error]

theorem exec_rts_next (h : pullAddr s = .ok (target, s1)) : exec .rts s = .next { s1 with pc := target + 1#16 } := by
  show returnSubroutine s = _
  simp only [returnSubroutine, h, ok_bind]
  rfl

theorem exec_rts_fault (h : pullAddr s = .error f) : exec .rts s = .fault f := by
  show returnSubroutine s = _
  simp only [returnSubroutine, h, error_bind, outcome_error]

theorem pullStatus_next {b : Byte} (h : pull s = .ok (b, s1)) : pullStatus s = .ok { s1 with p := flagsOfByte b } := by
  simp only [pullStatus, h, ok_bind]
  rfl

theorem pullStatus_error (h : pull s = .error f) : pullStatus s = .error f := by
  simp only [pullStatus, h, error_bind]

theorem exec_rti_next (hp : pullStatus s = .ok s1) (hpc : pullAddr s1 = .ok (target, s2)) :
    exec .rti s = .next { s2 with pc := target } := by
  show outcome (returnFromInterrupt s) = _
  simp only [returnFromInterrupt, hp, hpc, ok_bind]
  rfl

theorem exec_rti_status_fault (hp : pullStatus s = .error f) : exec .rti s = .fault f := by
  show outcome (returnFromInterrupt s) = _
  simp only [returnFromInterrupt, hp, error_bind, outcome_error]

theorem exec_rti_pc_fault (hp : pullStatus s = .ok s1) (hpc : pullAddr s1 = .error f) : exec .rti s = .fault f := by
  show outcome (returnFromInterrupt s) = _
  simp only [returnFromInterrupt, hp, hpc, ok_bind, error_bind, outcome_error]

theorem exec_pha_next (h : push s s.a = .ok s1) : exec .pha s = .next (advance s1 1) := by
  show outcome (pushA s) = _
  simp only [pushA, h, ok_bind]
  rfl

theorem exec_pha_fault (h : push s s.a = .error f) : exec .pha s = .fault f := by
  show outcome (pushA s) = _
  simp only [pushA, h, error_bind, outcome_error]

theorem exec_php_next (h : pushStatus s = .ok s1) : exec .php s = .next (advance s1 1) := by
  show outcome (pushP s) = _
  simp only [pushP, h, ok_bind]
  rfl

theorem exec_php_fault (h : pushStatus s = .error f) : exec .php s = .fault f := by
  show outcome (pushP s) = _
  simp only [pushP, h, error_bind, outcome_error]

theorem exec_pla_next {b : Byte} (h : pull s = .ok (b, s1)) :
    exec .pla s = .next (advance { s1 with a := b, p := setNZ b s1.p } 1) := by
  show outcome (pullA s) = _
  simp only [pullA, h, ok_bind]
  rfl

theorem exec_pla_fault (h : pull s = .error f) : exec .pla s = .fault f := by
  show outcome (pullA s) = _
  simp only [pullA, h, error_bind, outcome_error]

theorem exec_plp_next {b : Byte} (h : pull s = .ok (b, s1)) :
    exec .plp s = .next (advance { s1 with p := flagsOfByte b } 1) := by
  show outcome (pullP s) = _
  simp only [pullP, pullStatus_next h, ok_bind]
  rfl

theorem exec_plp_fault (h : pull s = .error f) : exec .plp s = .fault f := by
  show outcome (pullP s) = _
  simp only [pullP, pullStatus_error h, error_bind, outcome_error]

end

/-! ## A machine in which every address is mapped -/

/-- No address is unmapped. -/
def AllMapped (s : State) : Prop := ∀ addr : Addr, s.kindAt addr ≠ .unmapped

section
variable {s : State}

theorem AllMapped.of_keeps {t : State} (h : AllMapped s) (hk : Keeps s t) : AllMapped t :=
  fun addr => by rw [kindAt_congr hk.chip]; exact h addr

theorem effAddr_completes (h : AllMapped s) (place : Place) : ∃ ea t, effAddr s place = .ok (ea, t) := by
  cases place with
  | indx aa => exact read16_completes (h _) (h _)
  | indy aa =>
    obtain ⟨base, t, hread⟩ := read16_completes (h (zeroPage aa)) (h (zeroPage (aa + 1#8)))
    exact ⟨_, t, effAddr_indy_ok hread⟩
  | _ => exact ⟨_, s, rfl⟩

theorem readOperand_completes (h : AllMapped s) (o : Operand) : ∃ m t, readOperand s o = .ok (m, t) := by
  cases o with
  | imm dd => exact ⟨dd, s, rfl⟩
  | mem place =>
    obtain ⟨ea, s1, hea⟩ := effAddr_completes h place
    rw [readOperand_mem hea]
    exact memRead_completes (h.of_keeps (effAddr_keeps hea) ea)

theorem jmpPointerHigh_completes {chip : Chip} (h : chip.jmpIndWrap ≠ none) (pointer : Addr) :
    ∃ high, jmpPointerHigh chip pointer = some high := by
  unfold jmpPointerHigh
  split
  · cases hwrap : chip.jmpIndWrap with
    | none => exact absurd hwrap h
    | some wrap => cases wrap <;> exact ⟨_, rfl⟩
  · exact ⟨_, rfl⟩

theorem pullStatus_completes (h : s.kindAt (addrOf s.chip.stackPage (s.sp + 1#8)) ≠ .unmapped) :
    ∃ t, pullStatus s = .ok t := by
  obtain ⟨b, s1, hb⟩ := pull_completes h
  exact ⟨_, pullStatus_next hb⟩

theorem exec_completes (h : AllMapped s) (hwrap : s.chip.jmpIndWrap ≠ none) (i : Instr) : ∃ t, exec i s = .next t := by
  cases runsAs i with
  | read o f effect run length =>
    obtain ⟨m, s1, hread⟩ := readOperand_completes h o
    exact ⟨_, run ▸ readOp_next hread⟩
  | store place v effect mode run length =>
    obtain ⟨ea, s1, hea⟩ := effAddr_completes h place
    obtain ⟨s2, hw⟩ := memWrite_completes (v s1) (h.of_keeps (effAddr_keeps hea) ea)
    exact ⟨_, run ▸ storeOp_next hea hw⟩
  | modify place f effect mode run length =>
    obtain ⟨ea, s1, hea⟩ := effAddr_completes h place
    have h1 := h.of_keeps (effAddr_keeps hea)
    obtain ⟨v, s2, hr⟩ := memRead_completes (h1 ea)
    obtain ⟨s3, hw⟩ := memWrite_completes (f v s2.p).1 (h1.of_keeps (memRead_keeps hr) ea)
    exact ⟨_, run ▸ modifyOp_next hea hr hw⟩
  | accumulator f effect mode run length => exact ⟨_, run ▸ accumulatorOp_next f s⟩
  | implied f effect run length => exact ⟨_, run ▸ impliedOp_next f s⟩
  | branch condition rel effect run => exact ⟨_, run s⟩
  | jump aaaa instr => exact ⟨{ s with pc := aaaa }, by rw [instr]; rfl⟩
  | jumpIndirect aaaa instr =>
    obtain ⟨high, hhigh⟩ := jmpPointerHigh_completes hwrap aaaa
    obtain ⟨target, s1, hread⟩ := read16_completes (h aaaa) (h high)
    exact ⟨_, instr ▸ exec_jmpInd_next hhigh hread⟩
  | call aaaa instr =>
    obtain ⟨s1, hpush⟩ := pushAddr_completes (s.pc + 2#16) (h _) (h _)
    exact ⟨_, instr ▸ exec_jsr_next aaaa hpush⟩
  | returnSubroutine instr =>
    obtain ⟨w, s1, hpull⟩ := pullAddr_completes (h _) (h _)
    exact ⟨_, instr ▸ exec_rts_next hpull⟩
  | returnInterrupt instr =>
    obtain ⟨s1, hp⟩ := pullStatus_completes (h _)
    have h1 := h.of_keeps (pullStatus_keeps hp)
    obtain ⟨w, s2, hpc⟩ := pullAddr_completes (h1 _) (h1 _)
    exact ⟨_, instr ▸ exec_rti_next hp hpc⟩
  | pushA instr =>
    obtain ⟨s1, hpush⟩ := push_completes s.a (h _)
    exact ⟨_, instr ▸ exec_pha_next hpush⟩
  | pushP instr =>
    obtain ⟨s1, hpush⟩ := pushStatus_completes (h _)
    exact ⟨_, instr ▸ exec_php_next hpush⟩
  | pullA instr =>
    obtain ⟨b, s1, hpull⟩ := pull_completes (h _)
    exact ⟨_, instr ▸ exec_pla_next hpull⟩
  | pullP instr =>
    obtain ⟨b, s1, hpull⟩ := pull_completes (h _)
    exact ⟨_, instr ▸ exec_plp_next hpull⟩

/-- A fetch that reads only mapped addresses stops at a bad opcode or gives an instruction. -/
theorem fetch_of_allMapped (h : AllMapped s) :
    (∃ i t, fetch s = .ok (i, t)) ∨ (∃ b, fetch s = .error (.illegalOpcode b)) ∨
      ∃ m mode, fetch s = .error (.unavailable m mode) := by
  obtain ⟨b, s1, hb⟩ := memRead_completes (h s.pc)
  have h1 := h.of_keeps (memRead_keeps hb)
  cases hdec : decodeOpcode s.chip.opMap b with
  | none => exact .inr (.inl ⟨b, fetch_unassigned hb hdec⟩)
  | some form =>
    cases hwf : form.sample.wellFormed s.chip.cpu with
    | false => exact .inr (.inr ⟨_, _, by simp only [fetch, hb, ok_bind, hdec, hwf]; rfl⟩)
    | true =>
      left
      cases form with
      | one i => exact ⟨i, s1, fetch_one hb hdec hwf⟩
      | two f =>
        obtain ⟨b1, s2, hb1⟩ := memRead_completes (h1 (s.pc + 1#16))
        exact ⟨_, s2, by rw [fetch_two hb hdec hwf, hb1, ok_bind]⟩
      | three f =>
        obtain ⟨b1, s2, hb1⟩ := memRead_completes (h1 (s.pc + 1#16))
        obtain ⟨b2, s3, hb2⟩ := memRead_completes (h1.of_keeps (memRead_keeps hb1) (s.pc + 2#16))
        exact ⟨_, s3, by rw [fetch_three hb hdec hwf, hb1, ok_bind, hb2, ok_bind]⟩

end

/-- Settles O24: each shared operation completes where every address is mapped. -/
theorem everyInstructionCompletesWhereMemoryIsMapped : Obligations.EveryInstructionCompletesWhereMemoryIsMapped :=
  fun i _ h hwrap => exec_completes h hwrap i

/-! ## Interrupt entry and the start of a run (R207, R230 to R234) -/

section
variable {s s1 s2 s3 t : State} {target : Addr} {f : Fault}

theorem enterInterrupt_next {vector : Addr} (hpc : pushAddr s s.pc = .ok s1) (hp : pushStatus s1 = .ok s2)
    (hvector : s2.chip.irqVector = some vector)
    (hread : read16 { s2 with p := { s2.p with i := true } } vector (vector + 1#16) = .ok (target, s3)) :
    enterInterrupt s = .ok { s3 with pc := target } := by
  simp only [enterInterrupt, hpc, hp, ok_bind, hvector, hread]
  rfl

theorem enterInterrupt_pc_error (hpc : pushAddr s s.pc = .error f) : enterInterrupt s = .error f := by
  simp only [enterInterrupt, hpc, error_bind]

theorem enterInterrupt_status_error (hpc : pushAddr s s.pc = .ok s1) (hp : pushStatus s1 = .error f) :
    enterInterrupt s = .error f := by
  simp only [enterInterrupt, hpc, hp, ok_bind, error_bind]

theorem enterInterrupt_noVector (hpc : pushAddr s s.pc = .ok s1) (hp : pushStatus s1 = .ok s2)
    (hvector : s2.chip.irqVector = none) : enterInterrupt s = .error .noIrqVector := by
  simp only [enterInterrupt, hpc, hp, ok_bind, hvector]

theorem enterInterrupt_vector_error {vector : Addr} (hpc : pushAddr s s.pc = .ok s1) (hp : pushStatus s1 = .ok s2)
    (hvector : s2.chip.irqVector = some vector)
    (hread : read16 { s2 with p := { s2.p with i := true } } vector (vector + 1#16) = .error f) :
    enterInterrupt s = .error f := by
  simp only [enterInterrupt, hpc, hp, ok_bind, hvector, hread, error_bind]

/-- After the push of pc, the status byte goes to the third location of the stack. -/
theorem pushAddr_third {w : Addr} (h : pushAddr s w = .ok s1) :
    addrOf s1.chip.stackPage s1.sp = addrOf s.chip.stackPage (s.sp - 2#8) := by
  rw [pushAddr_frame h, sub_one_sub_one]

/-- With its three stack locations mapped, interrupt entry comes to its vector. -/
theorem enterInterrupt_pushes (hfirst : s.kindAt (addrOf s.chip.stackPage s.sp) ≠ .unmapped)
    (hsecond : s.kindAt (addrOf s.chip.stackPage (s.sp - 1#8)) ≠ .unmapped)
    (hthird : s.kindAt (addrOf s.chip.stackPage (s.sp - 2#8)) ≠ .unmapped) :
    ∃ s1 s2, pushAddr s s.pc = .ok s1 ∧ pushStatus s1 = .ok s2 ∧ s2.chip = s.chip := by
  obtain ⟨s1, hpc⟩ := pushAddr_completes s.pc hfirst hsecond
  have hchip := (pushAddr_keeps hpc).chip
  obtain ⟨s2, hp⟩ := pushStatus_completes (s := s1) (by rwa [pushAddr_third hpc, kindAt_congr hchip])
  exact ⟨s1, s2, hpc, hp, (pushStatus_keeps hp).chip.trans hchip⟩

theorem enterInterrupt_completes {vector : Addr} (hvector : s.chip.irqVector = some vector)
    (hlow : s.kindAt vector ≠ .unmapped) (hhigh : s.kindAt (vector + 1#16) ≠ .unmapped)
    (hfirst : s.kindAt (addrOf s.chip.stackPage s.sp) ≠ .unmapped)
    (hsecond : s.kindAt (addrOf s.chip.stackPage (s.sp - 1#8)) ≠ .unmapped)
    (hthird : s.kindAt (addrOf s.chip.stackPage (s.sp - 2#8)) ≠ .unmapped) : ∃ t, enterInterrupt s = .ok t := by
  obtain ⟨s1, s2, hpc, hp, hchip⟩ := enterInterrupt_pushes hfirst hsecond hthird
  have hkind (a : Addr) : State.kindAt { s2 with p := { s2.p with i := true } } a = s.kindAt a := kindAt_congr hchip a
  obtain ⟨target, s3, hread⟩ := read16_completes ((hkind vector).trans_ne hlow) ((hkind (vector + 1#16)).trans_ne hhigh)
  exact ⟨_, enterInterrupt_next hpc hp (hchip ▸ hvector) hread⟩

/-- What interrupt entry leaves: the three bytes pushed, every other byte, the vector's word in pc, and the frame. -/
theorem enterInterrupt_effect (h : enterInterrupt s = .ok t) :
    (∃ status, PushedStatus s status ∧ Stored s t (addrOf s.chip.stackPage s.sp) (hiByte s.pc) ∧
      Stored s t (addrOf s.chip.stackPage (s.sp - 1#8)) (loByte s.pc) ∧
      Stored s t (addrOf s.chip.stackPage (s.sp - 2#8)) status) ∧
    (∀ b : Addr, b ≠ addrOf s.chip.stackPage s.sp → b ≠ addrOf s.chip.stackPage (s.sp - 1#8) →
      b ≠ addrOf s.chip.stackPage (s.sp - 2#8) → t.byteAt b = s.byteAt b) ∧
    (∀ vector, s.chip.irqVector = some vector →
      (HoldsByte s vector → t.pc.toNat % 256 = (t.byteAt vector).toNat) ∧
      (HoldsByte s (vector + 1#16) → t.pc.toNat / 256 = (t.byteAt (vector + 1#16)).toNat)) ∧
    t = { s with mem := t.mem, sp := s.sp - 3#8, p := { s.p with i := true }, pc := t.pc, draws := t.draws } := by
  obtain ⟨s1, s2, vector, target, s3, hpc, hp, hvector, hread, rfl⟩ := enterInterrupt_cases h
  obtain ⟨hhi, hlo, hothers⟩ := pushAddr_stored hpc
  obtain ⟨status, hstatus, hstored, hothers2⟩ := pushStatus_stored hp
  have hchip1 := (pushAddr_keeps hpc).chip
  have hchip2 := (pushStatus_keeps hp).chip.trans hchip1
  have hframe1 := pushAddr_frame hpc
  have hframe2 := pushStatus_frame hp
  have hframe3 := read16_frame hread
  have hbytes (b : Addr) : s3.byteAt b = s2.byteAt b := byteAt_congr (by rw [hframe3]) b
  rw [pushAddr_third hpc] at hstored hothers2
  have hne1 : addrOf s.chip.stackPage s.sp ≠ addrOf s.chip.stackPage (s.sp - 2#8) :=
    fun he => sub_two_ne s.sp (addrOf_inj.1 he).symm
  have hne2 : addrOf s.chip.stackPage (s.sp - 1#8) ≠ addrOf s.chip.stackPage (s.sp - 2#8) :=
    fun he => sub_one_ne (s.sp - 1#8) ((sub_one_sub_one s.sp).trans (addrOf_inj.1 he).symm)
  refine ⟨⟨status, ?status, ?high, ?low, ?third⟩, fun b hb1 hb2 hb3 => ?others, fun v hv => ?vector, ?frame⟩
  case status =>
    have hp1 : s1.p = s.p := by rw [hframe1]
    rwa [PushedStatus, hp1, hchip1] at hstatus
  case high => exact stored_andThen hhi ((hbytes _).trans (hothers2 _ hne1))
  case low => exact stored_andThen hlo ((hbytes _).trans (hothers2 _ hne2))
  case third => exact stored_andThen (stored_after hstored hchip1 (hothers _ hne1.symm hne2.symm)) (hbytes _)
  case others => exact (hbytes b).trans ((hothers2 b hb3).trans (hothers b hb1 hb2))
  case vector =>
    obtain rfl : vector = v := Option.some.inj (hvector.symm.trans (hchip2 ▸ hv))
    obtain ⟨l, u, rfl, hl, hu, _⟩ := read16_bytes hread
    have hheld (a : Addr) (ha : HoldsByte s a) : HoldsByte { s2 with p := { s2.p with i := true } } a :=
      (holdsByte_congr hchip2 a).2 ha
    refine ⟨fun ha => ?_, fun ha => ?_⟩
    · show (addrOf u l).toNat % 256 = (s3.byteAt vector).toNat
      rw [← loByte_toNat, loByte_addrOf, hl (hheld _ ha), hbytes]
      rfl
    · show (addrOf u l).toNat / 256 = (s3.byteAt (vector + 1#16)).toNat
      rw [← hiByte_toNat, hiByte_addrOf, hu (hheld _ ha), hbytes]
      rfl
  case frame =>
    have hsp : s.sp - 1#8 - 1#8 - 1#8 = s.sp - 3#8 := by rw [sub_one_sub_one, BitVec.sub_sub]; rfl
    rw [hframe3, hframe2, hframe1, hsp]

end

/-- Settles O25: interrupt entry, the fetch and every instruction complete or stop at a bad opcode. -/
theorem mappedMachineStopsOnlyAtBadOpcodes : Obligations.MappedMachineStopsOnlyAtBadOpcodes := by
  intro s h hwrap hirq
  have hnext : AllMapped (nextInput s) := fun addr => by rw [nextInput_kindAt]; exact h addr
  cases hi : interruptTaken s with
  | true =>
    obtain ⟨vector, hvector⟩ := Option.ne_none_iff_exists'.1 hirq
    obtain ⟨t, ht⟩ := enterInterrupt_completes (s := nextInput s) (by rwa [nextInput_chip]) (hnext _) (hnext _) (hnext _)
      (hnext _) (hnext _)
    exact .inl ⟨t, by rw [step_taken hi, ht, outcome_ok]⟩
  | false =>
    rcases fetch_of_allMapped hnext with ⟨i, s1, hf⟩ | ⟨b, hf⟩ | ⟨m, mode, hf⟩
    · have heq := fetch_frame hf
      have hchip : s1.chip = s.chip := by rw [heq]; exact nextInput_chip s
      obtain ⟨t, ht⟩ := exec_completes (s := s1) (fun addr => by rw [kindAt_congr hchip]; exact h addr) (hchip ▸ hwrap) i
      exact .inl ⟨t, (step_fetched hi hf).trans ht⟩
    · exact .inr (.inl ⟨b, step_fetch_fault hi hf⟩)
    · exact .inr (.inr ⟨m, mode, step_fetch_fault hi hf⟩)

@[simp] theorem stored_nextInput (s t : State) (addr : Addr) (v : Byte) :
    Stored (nextInput s) t addr v ↔ Stored s t addr v := by
  simp [Stored]

@[simp] theorem pushedStatus_nextInput (s : State) (b : Byte) : PushedStatus (nextInput s) b ↔ PushedStatus s b := by
  simp [PushedStatus]

/-- Settles O12: the entry completes from the state with the next input, and has its effect there. -/
theorem interruptEntryEffect : Obligations.InterruptEntryEffect := by
  intro s vector hi hpending haccept hvector hlow hhigh hfirst hsecond hthird
  have hstep := step_taken (interruptTaken_iff.2 ⟨hi, hpending, haccept⟩)
  obtain ⟨t, ht⟩ := enterInterrupt_completes (s := nextInput s) (vector := vector) (by simpa using hvector)
    (by simpa using hlow) (by simpa using hhigh) (by simpa using hfirst) (by simpa using hsecond) (by simpa using hthird)
  rw [ht, outcome_ok] at hstep
  obtain ⟨⟨status, hstatus, hhi, hlo, hst⟩, hothers, hpc, hframe⟩ := enterInterrupt_effect ht
  rw [nextInput_sp, nextInput_p] at hframe
  simp only [nextInput_chip, nextInput_sp, nextInput_pc, nextInput_byteAt, stored_nextInput, pushedStatus_nextInput,
    holdsByte_nextInput] at hstatus hhi hlo hst hothers hpc
  obtain ⟨hpcLow, hpcHigh⟩ := hpc vector hvector
  exact ⟨t, status, hstep, hhi, hlo, hst, hstatus, hothers, hpcLow, hpcHigh, hframe⟩

/-- Settles O13: the accesses of the entry in their order, each with the ones before it mapped. -/
theorem interruptWithoutVectorFaults : Obligations.InterruptWithoutVectorFaults := by
  rintro s first second third hi hpending haccept rfl rfl rfl
  have hstep := step_taken (interruptTaken_iff.2 ⟨hi, hpending, haccept⟩)
  have hfault {f : Fault} (h : enterInterrupt (nextInput s) = .error f) : step s = .fault f := by
    rw [hstep, h, outcome_error]
  refine ⟨fun h1 => ?first, fun h1 h2 => ?second, fun h1 h2 h3 => ?third, fun h1 h2 h3 => ?vector⟩
  case first =>
    have := pushAddr_first_unmapped (s := nextInput s) (nextInput s).pc (by simpa using h1)
    rw [nextInput_chip, nextInput_sp] at this
    exact hfault (enterInterrupt_pc_error this)
  case second =>
    have := pushAddr_second_unmapped (s := nextInput s) (nextInput s).pc (by simpa using h1) (by simpa using h2)
    rw [nextInput_chip, nextInput_sp] at this
    exact hfault (enterInterrupt_pc_error this)
  case third =>
    obtain ⟨s1, hpc⟩ := pushAddr_completes (s := nextInput s) (nextInput s).pc (by simpa using h1) (by simpa using h2)
    have haddr := pushAddr_third hpc
    rw [nextInput_chip, nextInput_sp] at haddr
    have hp := pushStatus_unmapped (s := s1) (by rwa [haddr, kindAt_congr (pushAddr_keeps hpc).chip, nextInput_kindAt])
    rw [haddr] at hp
    exact hfault (enterInterrupt_status_error hpc hp)
  case vector =>
    obtain ⟨s1, s2, hpc, hp, hchip⟩ := enterInterrupt_pushes (s := nextInput s) (by simpa using h1) (by simpa using h2)
      (by simpa using h3)
    rw [nextInput_chip] at hchip
    have hkind (a : Addr) : State.kindAt { s2 with p := { s2.p with i := true } } a = s.kindAt a := kindAt_congr hchip a
    refine ⟨fun hv => hfault (enterInterrupt_noVector hpc hp (hchip ▸ hv)),
      fun vector hv => ⟨fun hl => ?_, fun hl hh => ?_⟩⟩
    · exact hfault (enterInterrupt_vector_error hpc hp (hchip ▸ hv) (read16_low_unmapped _ ((hkind _).trans hl)))
    · exact hfault (enterInterrupt_vector_error hpc hp (hchip ▸ hv)
        (read16_high_unmapped ((hkind _).trans_ne hl) ((hkind _).trans hh)))

/-- Settles O15: the start by what the chip gives. -/
theorem resetRunStartsAtVectorOrStartPc : Obligations.ResetRunStartsAtVectorOrStartPc := by
  intro chip mem irq irqNext addr
  refine ⟨fun hstart => ⟨fun hl => ?low, fun hl hh => ?high, fun hl hh => ?vector⟩, fun hstart => ?pc,
    fun hstart => ?none⟩
  case low => simp only [resetRun, hstart, read16_low_unmapped (s := State.initial chip mem addr irq irqNext) _ hl]
  case high => simp only [resetRun, hstart, read16_high_unmapped (s := State.initial chip mem addr irq irqNext) hl hh]
  case vector =>
    obtain ⟨target, t, hread⟩ := read16_completes (s := State.initial chip mem addr irq irqNext) hl hh
    have hframe := read16_frame hread
    obtain ⟨l, u, rfl, hlow, hhigh, _⟩ := read16_bytes hread
    have hchip : t.chip = chip := by rw [hframe]; rfl
    have hmem : t.mem = mem := by rw [hframe]; rfl
    refine ⟨{ t with pc := addrOf u l }, by simp only [resetRun, hstart, hread], ?_, hmem, hchip, ?_, ?_, fun h => ?_,
      fun h => ?_⟩
    · rw [hframe]; rfl
    · rw [hframe]; rfl
    · rw [hframe]; rfl
    · show (addrOf u l).toNat % 256 = _
      rw [← loByte_toNat, loByte_addrOf, hlow ((holdsByte_congr hchip addr).1 h)]
      exact congrArg BitVec.toNat (byteAt_congr hmem.symm addr)
    · show (addrOf u l).toNat / 256 = _
      rw [← hiByte_toNat, hiByte_addrOf, hhigh ((holdsByte_congr hchip _).1 h)]
      exact congrArg BitVec.toNat (byteAt_congr hmem.symm _)
  case pc =>
    exact ⟨State.initial chip mem addr irq irqNext, by simp only [resetRun, hstart], rfl, rfl, rfl, rfl, rfl, rfl⟩
  case none => simp only [resetRun, hstart]

end Sys2Proof.Laws

namespace Sys2Proof.Laws

open Sys2Proof.Machine Sys2Proof.Claims

/-! ## The eight branches (R111, R123 to R125, R127 to R131) -/

/-- What the model's tables say of a branch with its condition in a state. -/
structure BranchRow (i : Instr) (condition : Bool) (rel : Byte) (s : State) : Prop where
  run : exec i s = branch condition rel s
  availability : i.availability = .every
  cell65b02 : Instr.cell65b02 i = ⟨2, .branch65b02⟩
  cellOthers : Instr.cellOthers i = some ⟨2, .branch⟩
  taken : branchTaken i s = some (condition, rel)

theorem branchForms_row {s : State} {rel : Byte} {form : Instr × Bool} (h : form ∈ branchForms rel s.p) :
    BranchRow form.1 form.2 rel s := by
  fin_cases h <;> exact ⟨rfl, rfl, rfl, rfl, rfl⟩

theorem toNat_add_two (a : Addr) : (a + 2#16).toNat = (a.toNat + 2) % 65536 := BitVec.toNat_add a 2#16

theorem branchTarget_toNat (s : State) (rel : Byte) :
    ((branchTarget s rel).toNat : Int) = ((s.pc.toNat : Int) + 2 + rel.toInt) % 65536 := by
  have hlt := rel.isLt
  have hmsb : rel.msb = decide (128 ≤ rel.toNat) := BitVec.msb_eq_decide rel
  rw [branchTarget, BitVec.toNat_add, toNat_add_two, BitVec.toNat_signExtend, BitVec.toNat_setWidth, hmsb,
    BitVec.toInt_eq_toNat_cond]
  by_cases hneg : 128 ≤ rel.toNat
  · rw [decide_eq_true hneg, if_pos rfl, if_neg (by omega)]
    omega
  · rw [decide_eq_false hneg, if_neg (by decide), if_pos (by omega)]
    omega

theorem hiByte_eq_iff {a b : Addr} : hiByte a = hiByte b ↔ a.toNat / 256 = b.toNat / 256 := by
  rw [← BitVec.toNat_inj, hiByte_toNat, hiByte_toNat]

/-- Settles O59: the cell of the CPU type and the cycles that its note adds. -/
theorem branchCycleCounts : Obligations.BranchCycleCounts := by
  intro s rel i condition target h htarget
  have hrow := branchForms_row h
  have hwf : ∀ cpu, i.wellFormed cpu = true := fun cpu => by rw [Instr.wellFormed, hrow.availability]; cases cpu <;> rfl
  have htaken : branchTarget s rel = target :=
    BitVec.eq_of_toNat_eq (Int.ofNat.inj ((branchTarget_toNat s rel).trans htarget.symm))
  refine ⟨fun hcpu => ?_, fun hcpu => ?_⟩
  · have hcell : cycleCell s.chip.cpu i = some ⟨2, .branch65b02⟩ := by simp [cycleCell, hwf, hcpu, hrow.cell65b02]
    cases condition <;> simp [cycles, hcell, extraCycles, hrow.taken]
  · have hcell : cycleCell s.chip.cpu i = some ⟨2, .branch⟩ := by
      cases hc : s.chip.cpu with
      | t65b02 => exact absurd hc hcpu
      | _ => simp [cycleCell, hwf, hrow.cellOthers]
    cases condition with
    | false => simp [cycles, hcell, extraCycles, hrow.taken]
    | true =>
      simp only [cycles, hcell, extraCycles, hrow.taken, htaken, hiByte_eq_iff, toNat_add_two]
      split <;> rfl

/-- Settles O49: the two ways of a branch. -/
theorem branchTarget : Obligations.BranchTarget := by
  intro s rel i condition h
  have hrow := branchForms_row h
  cases condition with
  | true => exact ⟨_, hrow.run, rfl, branchTarget_toNat s rel⟩
  | false => exact ⟨_, hrow.run, rfl, by simp⟩

/-! ## JMP (R109, R148) -/

theorem loByte_eq_ff_iff (a : Addr) : loByte a = 0xFF#8 ↔ a.toNat % 256 = 255 := by
  rw [← BitVec.toNat_inj, loByte_toNat]
  rfl

/-- The address of the pointer's second byte, in numbers. -/
theorem jmpPointerHigh_eq {chip : Chip} {pointer high : Addr}
    (h : (pointer.toNat % 256 ≠ 255 ∨ chip.jmpIndWrap = some .carry) ∧ high.toNat = (pointer.toNat + 1) % 65536 ∨
      pointer.toNat % 256 = 255 ∧ chip.jmpIndWrap = some .nocarry ∧ high.toNat = pointer.toNat - 255) :
    jmpPointerHigh chip pointer = some high := by
  rcases h with ⟨hwrap, hhigh⟩ | ⟨hend, hwrap, hhigh⟩
  · have heq : pointer + 1#16 = high := BitVec.eq_of_toNat_eq ((BitVec.toNat_add pointer 1#16).trans hhigh.symm)
    by_cases hend : pointer.toNat % 256 = 255
    · have hcarry := hwrap.resolve_left fun hne => hne hend
      simp [jmpPointerHigh, (loByte_eq_ff_iff pointer).2 hend, hcarry, heq]
    · simp [jmpPointerHigh, mt (loByte_eq_ff_iff pointer).1 hend, heq]
  · have heq : addrOf (hiByte pointer) 0#8 = high := by
      apply BitVec.eq_of_toNat_eq
      rw [addrOf_toNat, hiByte_toNat, hhigh]
      simp
      omega
    simp [jmpPointerHigh, (loByte_eq_ff_iff pointer).2 hend, hwrap, heq]

/-- Settles O50: the jump through a pointer is one word read. -/
theorem jumpTarget : Obligations.JumpTarget := by
  intro s aaaa high
  refine ⟨rfl, fun hend hwrap => ?refused, fun hhigh => ?indirect⟩
  case refused =>
    apply exec_jmpInd_refused
    simp [jmpPointerHigh, (loByte_eq_ff_iff aaaa).2 hend, hwrap]
  case indirect =>
    have hpointer := jmpPointerHigh_eq hhigh
    refine ⟨fun hl => exec_jmpInd_fault hpointer (read16_low_unmapped _ hl),
      fun hl hh => exec_jmpInd_fault hpointer (read16_high_unmapped hl hh), fun hl hh => ?_⟩
    obtain ⟨target, t, hread⟩ := read16_completes hl hh
    have hframe := read16_frame hread
    obtain ⟨l, u, rfl, hlow, hup, hsame⟩ := read16_bytes hread
    refine ⟨_, exec_jmpInd_next hpointer hread, fun h => ?_, fun h => ?_, by rw [hframe], fun h h' => ?_⟩
    · show (addrOf u l).toNat % 256 = _
      rw [← loByte_toNat, loByte_addrOf, hlow h]
    · show (addrOf u l).toNat / 256 = _
      rw [← hiByte_toNat, hiByte_addrOf, hup h]
    · show t.draws = s.draws
      rw [hsame h h']

/-! ## Calls and returns (R149, R162, R163) -/

theorem hiByte_loByte_toNat (a : Addr) : 256 * (hiByte a).toNat + (loByte a).toNat = a.toNat := by
  rw [← addrOf_toNat, addrOf_hiByte_loByte]

/-- Settles O51: JSR is the push of pc + 2 and the jump. -/
theorem subroutineCallPushesReturnAddress : Obligations.SubroutineCallPushesReturnAddress := by
  rintro s aaaa high low rfl rfl
  refine ⟨fun h => exec_jsr_fault aaaa (pushAddr_first_unmapped _ h),
    fun h h' => exec_jsr_fault aaaa (pushAddr_second_unmapped _ h h'), fun h h' => ?_⟩
  obtain ⟨s1, hpush⟩ := pushAddr_completes (s.pc + 2#16) h h'
  obtain ⟨hhi, hlo, hothers⟩ := pushAddr_stored hpush
  refine ⟨_, _, _, exec_jsr_next aaaa hpush, ?_, hhi, hlo, hothers, ?_⟩
  · rw [hiByte_loByte_toNat, toNat_add_two]
  · rw [pushAddr_frame hpush, sub_one_sub_one]

/-- RTI from its three pulls: the flags of the first do not matter to the other two. -/
theorem exec_rti_of_pulls {s s1 s2 s3 : State} {b lo hi : Byte} (hb : pull s = .ok (b, s1)) (hlo : pull s1 = .ok (lo, s2))
    (hhi : pull s2 = .ok (hi, s3)) : exec .rti s = .next { s3 with pc := addrOf hi lo, p := flagsOfByte b } :=
  exec_rti_next (pullStatus_next hb) (pullAddr_of_pulls (pull_setP _ hlo) (pull_setP _ hhi))

/-- Settles O52: the pulls in turn, RTI with the flags of the first. -/
theorem returnsPullPc : Obligations.ReturnsPullPc := by
  intro s s1 s2 s3 b lo hi hlo hhi
  refine ⟨⟨_, ?_, exec_rts_next (pullAddr_of_pulls hlo hhi)⟩,
    fun hb => ⟨_, addrOf_toNat hi lo, exec_rti_of_pulls hb hlo hhi⟩⟩
  rw [BitVec.toNat_add, addrOf_toNat]
  rfl

/-- A pull from a location that holds a byte, the location and the byte given. -/
theorem pull_at {s : State} {a : Addr} {b : Byte} (haddr : addrOf s.chip.stackPage (s.sp + 1#8) = a)
    (hheld : HoldsByte s a) (hbyte : s.byteAt a = b) : pull s = .ok (b, { s with sp := s.sp + 1#8 }) := by
  subst haddr hbyte
  exact pull_holdsByte hheld

/-- Settles O53: RTS pulls the word that JSR pushed. -/
theorem callThenReturnResumes : Obligations.CallThenReturnResumes := by
  intro s t u aaaa hfirst hsecond hjsr hsp hchip hbytes
  obtain ⟨s1, hpush, rfl⟩ := jumpSubroutine_cases hjsr
  obtain ⟨⟨hhi, _⟩, ⟨hlo, _⟩, _⟩ := pushAddr_stored hpush
  have hframe := pushAddr_frame hpush
  have hchip' : u.chip = s.chip := hchip.trans (by rw [hframe])
  have hsp1 : u.sp + 1#8 = s.sp - 1#8 := by rw [hsp, hframe, BitVec.sub_add_cancel]
  have hsp2 : u.sp + 1#8 + 1#8 = s.sp := by rw [hsp1, BitVec.sub_add_cancel]
  have hheld {a : Addr} (h : s.kindAt a = .ram) : HoldsByte u a := .inr ((kindAt_congr hchip' a).trans h)
  have hpullLo : pull u = .ok (loByte (s.pc + 2#16), { u with sp := u.sp + 1#8 }) :=
    pull_at (by rw [hchip', hsp1]) (hheld hsecond) ((hbytes _ (by simp)).trans (hlo hsecond))
  have hpullHi : pull { u with sp := u.sp + 1#8 } =
      .ok (hiByte (s.pc + 2#16), { u with sp := u.sp + 1#8 + 1#8 }) :=
    pull_at (s := { u with sp := u.sp + 1#8 }) (by rw [hchip', hsp2]) (hheld hfirst)
      ((hbytes _ (by simp)).trans (hhi hfirst))
  have hpc : s.pc + 2#16 + 1#16 = s.pc + 3#16 := BitVec.add_assoc s.pc 2#16 1#16
  rw [exec_rts_next (pullAddr_of_pulls hpullLo hpullHi), addrOf_hiByte_loByte, hpc, hsp2]

/-- Settles O14: RTI pulls the status byte and the word that the entry pushed. -/
theorem interruptThenRtiResumes : Obligations.InterruptThenRtiResumes := by
  intro s t u hi hpending haccept hfirst hsecond hthird hstep hsp hchip hbytes
  rw [step_taken (interruptTaken_iff.2 ⟨hi, hpending, haccept⟩), outcome_eq_next] at hstep
  obtain ⟨⟨status, hstatus, ⟨hhi, _⟩, ⟨hlo, _⟩, ⟨hst, _⟩⟩, _, _, hframe⟩ := enterInterrupt_effect hstep
  simp only [nextInput_chip, nextInput_sp, nextInput_pc, nextInput_kindAt, pushedStatus_nextInput]
    at hstatus hhi hlo hst
  have hchip' : u.chip = s.chip := hchip.trans (by rw [hframe]; exact nextInput_chip s)
  have hsp' : u.sp = s.sp - 3#8 := hsp.trans (by rw [hframe, nextInput_sp])
  have hsp1 : u.sp + 1#8 = s.sp - 2#8 := by rw [hsp']; bv_omega
  have hsp2 : u.sp + 1#8 + 1#8 = s.sp - 1#8 := by rw [hsp']; bv_omega
  have hsp3 : u.sp + 1#8 + 1#8 + 1#8 = s.sp := by rw [hsp2, BitVec.sub_add_cancel]
  have hheld {a : Addr} (h : s.kindAt a = .ram) : HoldsByte u a := .inr ((kindAt_congr hchip' a).trans h)
  have hpullSt : pull u = .ok (status, { u with sp := u.sp + 1#8 }) :=
    pull_at (by rw [hchip', hsp1]) (hheld hthird) ((hbytes _ (by simp)).trans (hst hthird))
  have hpullLo : pull { u with sp := u.sp + 1#8 } = .ok (loByte s.pc, { u with sp := u.sp + 1#8 + 1#8 }) :=
    pull_at (s := { u with sp := u.sp + 1#8 }) (by rw [hchip', hsp2]) (hheld hsecond)
      ((hbytes _ (by simp)).trans (hlo hsecond))
  have hpullHi : pull { u with sp := u.sp + 1#8 + 1#8 } =
      .ok (hiByte s.pc, { u with sp := u.sp + 1#8 + 1#8 + 1#8 }) :=
    pull_at (s := { u with sp := u.sp + 1#8 + 1#8 }) (by rw [hchip', hsp3]) (hheld hfirst)
      ((hbytes _ (by simp)).trans (hhi hfirst))
  obtain ⟨d, hd, hflags⟩ := flagsOfByte_of_pushedStatus hstatus
  exact ⟨d, hd, by rw [exec_rti_of_pulls hpullSt hpullLo hpullHi, addrOf_hiByte_loByte, hflags, hsp3]⟩

/-! ## The stack instructions (R156 to R159) -/

/-- Settles O55: PHA and PHP are one push each. -/
theorem pushAccumulatorAndStatus : Obligations.PushAccumulatorAndStatus := by
  rintro s free rfl
  refine ⟨fun h => ⟨exec_pha_fault (push_unmapped s.a h), exec_php_fault (pushStatus_unmapped h)⟩,
    fun h => ⟨?pha, ?php⟩⟩
  case pha =>
    obtain ⟨s1, hpush⟩ := push_completes s.a h
    refine ⟨_, exec_pha_next hpush, (push_stored hpush :), fun b hb => push_byteAt_other hpush hb, ?_⟩
    rw [push_frame hpush]
    rfl
  case php =>
    obtain ⟨s1, hpush⟩ := pushStatus_completes h
    obtain ⟨status, hstatus, hstored, hothers⟩ := pushStatus_stored hpush
    refine ⟨_, status, exec_php_next hpush, hstatus, hstored, hothers, ?_⟩
    rw [pushStatus_frame hpush]
    rfl

/-- Settles O56: PLA and PLP are one pull each. -/
theorem pullAccumulatorAndStatus : Obligations.PullAccumulatorAndStatus := by
  intro s s1 b hpull
  have hp : s1.p = s.p := by rw [pull_frame hpull]
  refine ⟨⟨_, exec_pla_next hpull, negativeAndZero_setNZ b s1.p, ?_⟩, ?_⟩
  · rw [pull_frame hpull]; rfl
  · rw [exec_plp_next hpull, pull_frame hpull]; rfl

/-- Settles O57: the location pulled is the one pushed to. -/
theorem pulledValuesAreThePushedOnes : Obligations.PulledValuesAreThePushedOnes := by
  intro s t u hram hsp hchip hbyte
  have key : t.chip = s.chip → t.sp = s.sp - 1#8 →
      pull u = .ok (t.byteAt (addrOf s.chip.stackPage s.sp), { u with sp := u.sp + 1#8 }) ∧ u.sp + 1#8 = s.sp := by
    intro htchip htsp
    have hchip' := hchip.trans htchip
    have hsp' : u.sp + 1#8 = s.sp := by rw [hsp, htsp, BitVec.sub_add_cancel]
    exact ⟨pull_at (by rw [hchip', hsp']) (.inr ((kindAt_congr hchip' _).trans hram)) hbyte, hsp'⟩
  refine ⟨fun hpha => ?pha, fun hphp => ?php⟩
  case pha =>
    obtain ⟨s1, hpush, rfl⟩ := pushA_cases hpha
    obtain ⟨hpull, hsp'⟩ := key (push_keeps hpush).chip (push_sp hpush :)
    have hpushed : s1.byteAt (addrOf s.chip.stackPage s.sp) = s.a := (push_stored hpush).1 hram
    exact ⟨_, exec_pla_next hpull, hpushed, hsp', rfl⟩
  case php =>
    obtain ⟨s1, hpush, rfl⟩ := pushP_cases hphp
    obtain ⟨status, hstatus, hstored, _⟩ := pushStatus_stored hpush
    obtain ⟨hpull, hsp'⟩ := key (pushStatus_keeps hpush).chip (by rw [advance_sp, pushStatus_frame hpush])
    rw [advance_byteAt, hstored.1 hram] at hpull
    obtain ⟨d, hd, hflags⟩ := flagsOfByte_of_pushedStatus hstatus
    have hplp := exec_plp_next hpull
    rw [hflags] at hplp
    exact ⟨_, hplp, hsp', rfl, rfl, rfl, rfl, rfl, rfl, hd⟩

end Sys2Proof.Laws

namespace Sys2Proof.Laws

open Sys2Proof.Machine Sys2Proof.Claims

/-! ## The forms of each instruction as the operation they run -/

/-- The instruction reads the operand and has the effect `f`. -/
structure ReadsWith (f : Byte → State → State) (form : Instr × Operand) : Prop where
  run : exec form.1 = readOp form.2 f
  length : form.1.length = operandLength form.2

/-- The instruction stores `v` at the place. -/
structure StoresWith (v : State → Byte) (form : Instr × Place) : Prop where
  run : exec form.1 = storeOp form.2 v
  length : form.1.length = placeLength form.2

/-- The instruction changes the byte at the place by `f`; no two mnemonics share a form. -/
structure ModifiesWith (f : Byte → Flags → Byte × Flags) (mnemonic : String) (form : Instr × Place) : Prop where
  run : exec form.1 = modifyOp form.2 f
  length : form.1.length = placeLength form.2
  mnemonic : form.1.mnemonic = mnemonic

section
variable {dd aa : Byte} {aaaa : Addr} {form : Instr × Operand}

theorem adcForms_reads (h : form ∈ adcForms dd aa aaaa) : ReadsWith addWithCarry form := by
  fin_cases h <;> exact ⟨rfl, rfl⟩

theorem sbcForms_reads (h : form ∈ sbcForms dd aa aaaa) : ReadsWith subtractWithBorrow form := by
  fin_cases h <;> exact ⟨rfl, rfl⟩

theorem andForms_reads (h : form ∈ andForms dd aa aaaa) : ReadsWith andToA form := by
  fin_cases h <;> exact ⟨rfl, rfl⟩

theorem oraForms_reads (h : form ∈ oraForms dd aa aaaa) : ReadsWith orToA form := by
  fin_cases h <;> exact ⟨rfl, rfl⟩

theorem eorForms_reads (h : form ∈ eorForms dd aa aaaa) : ReadsWith eorToA form := by
  fin_cases h <;> exact ⟨rfl, rfl⟩

theorem bitForms_reads (h : form ∈ bitForms aa aaaa) : ReadsWith bitTest form := by
  fin_cases h <;> exact ⟨rfl, rfl⟩

theorem cmpForms_reads (h : form ∈ cmpForms dd aa aaaa) : ReadsWith compareA form := by
  fin_cases h <;> exact ⟨rfl, rfl⟩

theorem cpxForms_reads (h : form ∈ cpxForms dd aa aaaa) : ReadsWith compareX form := by
  fin_cases h <;> exact ⟨rfl, rfl⟩

theorem cpyForms_reads (h : form ∈ cpyForms dd aa aaaa) : ReadsWith compareY form := by
  fin_cases h <;> exact ⟨rfl, rfl⟩

theorem ldaForms_reads (h : form ∈ ldaForms dd aa aaaa) : ReadsWith loadA form := by
  fin_cases h <;> exact ⟨rfl, rfl⟩

theorem ldxForms_reads (h : form ∈ ldxForms dd aa aaaa) : ReadsWith loadX form := by
  fin_cases h <;> exact ⟨rfl, rfl⟩

theorem ldyForms_reads (h : form ∈ ldyForms dd aa aaaa) : ReadsWith loadY form := by
  fin_cases h <;> exact ⟨rfl, rfl⟩

/-- Every reading form has one of the effects of a reading mnemonic. -/
theorem readForms_reads (h : form ∈ readForms dd aa aaaa) :
    ∃ mnemonic f, ReadEffect mnemonic f ∧ ReadsWith f form := by
  simp only [readForms, List.mem_append] at h
  rcases h with ((((((((((h | h) | h) | h) | h) | h) | h) | h) | h) | h) | h) | h
  · exact ⟨_, _, .adc, adcForms_reads h⟩
  · exact ⟨_, _, .sbc, sbcForms_reads h⟩
  · exact ⟨_, _, .and, andForms_reads h⟩
  · exact ⟨_, _, .ora, oraForms_reads h⟩
  · exact ⟨_, _, .eor, eorForms_reads h⟩
  · exact ⟨_, _, .bit, bitForms_reads h⟩
  · exact ⟨_, _, .cmp, cmpForms_reads h⟩
  · exact ⟨_, _, .cpx, cpxForms_reads h⟩
  · exact ⟨_, _, .cpy, cpyForms_reads h⟩
  · exact ⟨_, _, .lda, ldaForms_reads h⟩
  · exact ⟨_, _, .ldx, ldxForms_reads h⟩
  · exact ⟨_, _, .ldy, ldyForms_reads h⟩

end

section
variable {aa : Byte} {aaaa : Addr} {form : Instr × Place}

theorem staForms_stores (h : form ∈ staForms aa aaaa) : StoresWith State.a form := by
  fin_cases h <;> exact ⟨rfl, rfl⟩

theorem stxForms_stores (h : form ∈ stxForms aa aaaa) : StoresWith State.x form := by
  fin_cases h <;> exact ⟨rfl, rfl⟩

theorem styForms_stores (h : form ∈ styForms aa aaaa) : StoresWith State.y form := by
  fin_cases h <;> exact ⟨rfl, rfl⟩

theorem storeForms_stores (h : form ∈ storeForms aa aaaa) : ∃ v, StoresWith v form := by
  simp only [storeForms, List.mem_append] at h
  rcases h with (h | h) | h
  · exact ⟨_, staForms_stores h⟩
  · exact ⟨_, stxForms_stores h⟩
  · exact ⟨_, styForms_stores h⟩

theorem aslForms_modifies (h : form ∈ aslForms aa aaaa) : ModifiesWith aslResult "ASL" form := by
  fin_cases h <;> exact ⟨rfl, rfl, rfl⟩

theorem lsrForms_modifies (h : form ∈ lsrForms aa aaaa) : ModifiesWith lsrResult "LSR" form := by
  fin_cases h <;> exact ⟨rfl, rfl, rfl⟩

theorem rolForms_modifies (h : form ∈ rolForms aa aaaa) : ModifiesWith rolResult "ROL" form := by
  fin_cases h <;> exact ⟨rfl, rfl, rfl⟩

theorem rorForms_modifies (h : form ∈ rorForms aa aaaa) : ModifiesWith rorResult "ROR" form := by
  fin_cases h <;> exact ⟨rfl, rfl, rfl⟩

theorem incForms_modifies (h : form ∈ incForms aa aaaa) : ModifiesWith incResult "INC" form := by
  fin_cases h <;> exact ⟨rfl, rfl, rfl⟩

theorem decForms_modifies (h : form ∈ decForms aa aaaa) : ModifiesWith decResult "DEC" form := by
  fin_cases h <;> exact ⟨rfl, rfl, rfl⟩

theorem modifyForms_modifies (h : form ∈ modifyForms aa aaaa) : ∃ f mnemonic, ModifiesWith f mnemonic form := by
  simp only [modifyForms, List.mem_append] at h
  rcases h with ((((h | h) | h) | h) | h) | h
  · exact ⟨_, _, aslForms_modifies h⟩
  · exact ⟨_, _, lsrForms_modifies h⟩
  · exact ⟨_, _, rolForms_modifies h⟩
  · exact ⟨_, _, rorForms_modifies h⟩
  · exact ⟨_, _, incForms_modifies h⟩
  · exact ⟨_, _, decForms_modifies h⟩

end

section
variable {aa : Byte} {form : Instr × Nat}

theorem clrForms_modifies (h : form ∈ clrForms aa) : exec form.1 = modifyOp (.zp aa) (clrResult form.2) := by
  fin_cases h <;> rfl

theorem setForms_modifies (h : form ∈ setForms aa) : exec form.1 = modifyOp (.zp aa) (setResult form.2) := by
  fin_cases h <;> rfl

theorem invForms_modifies (h : form ∈ invForms aa) : exec form.1 = modifyOp (.zp aa) (invResult form.2) := by
  fin_cases h <;> rfl

theorem tstForms_reads (h : form ∈ tstForms aa) : exec form.1 = readOp (.mem (.zp aa)) (testBit form.2) := by
  fin_cases h <;> rfl

end

/-! ## What each kind of form does by the kind of its address -/

section
variable {s s1 : State} {place : Place} {ea : Addr} {fault : Fault}

theorem readOp_fault {o : Operand} (f : Byte → State → State) (h : readOperand s o = .error fault) :
    readOp o f s = .fault fault := by
  simp only [readOp, h, error_bind, outcome_error]

theorem storeOp_address_fault (v : State → Byte) (h : effAddr s place = .error fault) :
    storeOp place v s = .fault fault := by
  simp only [storeOp, h, error_bind, outcome_error]

theorem storeOp_unmapped (v : State → Byte) (hea : effAddr s place = .ok (ea, s1)) (h : s.kindAt ea = .unmapped) :
    storeOp place v s = .fault (.unmappedWrite ea) := by
  have hw := memWrite_unmapped s1 ea (v s1) ((kindAt_congr (effAddr_chip hea) ea).trans h)
  simp only [storeOp, hea, ok_bind, hw, error_bind, outcome_error]

theorem modifyOp_address_fault (f : Byte → Flags → Byte × Flags) (h : effAddr s place = .error fault) :
    modifyOp place f s = .fault fault := by
  simp only [modifyOp, h, error_bind, outcome_error]

theorem modifyOp_unmapped (f : Byte → Flags → Byte × Flags) (hea : effAddr s place = .ok (ea, s1))
    (h : s.kindAt ea = .unmapped) : modifyOp place f s = .fault (.unmappedRead ea) := by
  have hr := memRead_unmapped s1 ea ((kindAt_congr (effAddr_chip hea) ea).trans h)
  simp only [modifyOp, hea, ok_bind, hr, error_bind, outcome_error]

theorem storeOp_mapped (v : State → Byte) (hea : effAddr s place = .ok (ea, s1)) (h : s.kindAt ea ≠ .unmapped) :
    ∃ t, storeOp place v s = .next t ∧ Stored s t ea (v s1) ∧ (∀ b, b ≠ ea → t.byteAt b = s.byteAt b) ∧
      t = { s1 with mem := t.mem, pc := s.pc + BitVec.ofNat 16 (placeLength place) } := by
  have hchip := effAddr_chip hea
  have hpc : s1.pc = s.pc := by rw [effAddr_frame hea]
  obtain ⟨s2, hw⟩ := memWrite_completes (v s1) ((kindAt_congr hchip ea).trans_ne h)
  refine ⟨_, storeOp_next hea hw, ?stored, fun b hb => ?others, ?frame⟩
  case stored => exact (stored_after (memWrite_stored hw) hchip (effAddr_byteAt hea ea) :)
  case others => exact (memWrite_byteAt hw (.inl hb)).trans (effAddr_byteAt hea b)
  case frame =>
    rw [memWrite_frame hw, ← hpc]
    rfl

theorem modifyOp_mapped (f : Byte → Flags → Byte × Flags) (hea : effAddr s place = .ok (ea, s1))
    (h : s.kindAt ea ≠ .unmapped) :
    ∃ (t : State) (v : Byte), modifyOp place f s = .next t ∧ (HoldsByte s ea → v = s.byteAt ea) ∧
      Stored s t ea (f v s.p).1 ∧ (∀ b, b ≠ ea → t.byteAt b = s.byteAt b) ∧ t.p = (f v s.p).2 ∧
      t = { s1 with
        mem := t.mem, p := t.p, pc := s.pc + BitVec.ofNat 16 (placeLength place), draws := t.draws } := by
  have hchip := effAddr_chip hea
  obtain ⟨v, s2, hr⟩ := memRead_completes ((kindAt_congr hchip ea).trans_ne h)
  have hchip2 := (memRead_chip hr).trans hchip
  have hbytes (b : Addr) : s2.byteAt b = s.byteAt b := (memRead_keeps_byteAt hr b).trans (effAddr_byteAt hea b)
  have hp : s2.p = s.p := by rw [memRead_frame hr, effAddr_frame hea]
  have hpc : s1.pc = s.pc := by rw [effAddr_frame hea]
  obtain ⟨s3, hw⟩ := memWrite_completes (s := s2) (f v s2.p).1 ((kindAt_congr hchip2 ea).trans_ne h)
  refine ⟨_, v, modifyOp_next hea hr hw, fun hheld => ?byte, ?stored, fun b hb => ?others, ?flags, ?frame⟩
  case byte => exact (memRead_held hr ((holdsByte_congr hchip ea).2 hheld)).1.trans (effAddr_byteAt hea ea)
  case stored => exact hp ▸ (stored_after (memWrite_stored hw) hchip2 (hbytes ea) :)
  case others => exact (memWrite_byteAt hw (.inl hb)).trans (hbytes b)
  case flags => rw [hp]; rfl
  case frame =>
    rw [memWrite_frame hw, memRead_frame hr, ← hpc]
    rfl

end

theorem ReadsWith.next {f : Byte → State → State} {i : Instr} {o : Operand} {s s1 : State} {m : Byte}
    (h : ReadsWith f (i, o)) (hread : readOperand s o = .ok (m, s1)) :
    exec i s = .next (advance (f m s1) i.length) := by
  rw [h.run, h.length]
  exact readOp_next hread

/-- Settles O29: each operation stops at its first access that faults. -/
theorem unreadableOperandFaults : Obligations.UnreadableOperandFaults := by
  intro s dd aa aaaa i f
  refine ⟨fun o ho hf => ?read, fun place hplace hf => ?place, fun high hhigh hf => exec_jmpInd_fault hhigh hf, ?pull⟩
  case read =>
    obtain ⟨_, g, _, hreads⟩ := readForms_reads ho
    rw [hreads.run]
    exact readOp_fault g hf
  case place =>
    rcases List.mem_append.1 hplace with h | h
    · obtain ⟨v, hstores⟩ := storeForms_stores h
      rw [hstores.run]
      exact storeOp_address_fault v hf
    · obtain ⟨g, _, hmodifies⟩ := modifyForms_modifies h
      rw [hmodifies.run]
      exact modifyOp_address_fault g hf
  case pull =>
    rintro first second third rfl rfl rfl
    refine ⟨fun h1 => ?first, fun h1 h2 => ?second, fun h1 h2 h3 => ?third⟩
    case first =>
      have hpull := pull_unmapped h1
      exact ⟨exec_pla_fault hpull, exec_plp_fault hpull, exec_rts_fault (pullAddr_first_unmapped h1),
        exec_rti_status_fault (pullStatus_error hpull)⟩
    all_goals
      obtain ⟨s1, hp⟩ := pullStatus_completes h1
      have hframe := pullStatus_frame hp
      have hchip : s1.chip = s.chip := by rw [hframe]
      have hsp1 : s1.sp + 1#8 = s.sp + 2#8 := by rw [hframe]; exact add_one_add_one s.sp
      have hsp2 : s1.sp + 2#8 = s.sp + 3#8 := by rw [hframe]; exact add_one_add_two s.sp
    case second =>
      have hpc := pullAddr_first_unmapped (s := s1) (by rwa [hchip, hsp1, kindAt_congr hchip])
      rw [hchip, hsp1] at hpc
      exact ⟨exec_rts_fault (pullAddr_second_unmapped h1 h2), exec_rti_pc_fault hp hpc⟩
    case third =>
      have hpc := pullAddr_second_unmapped (s := s1) (by rwa [hchip, hsp1, kindAt_congr hchip])
        (by rwa [hchip, hsp2, kindAt_congr hchip])
      rw [hchip, hsp2] at hpc
      exact exec_rti_pc_fault hp hpc

end Sys2Proof.Laws

namespace Sys2Proof.Laws

open Sys2Proof.Machine Sys2Proof.Claims

/-! ## Addition and subtraction on bytes and flags (R120, R164, R180, R181) -/

theorem getLsbD_seven (r : Byte) : r.getLsbD 7 = decide (128 ≤ r.toNat) := BitVec.msb_eq_decide r

theorem toNat_xor_ff (m : Byte) : (m ^^^ 0xFF#8).toNat = 255 - m.toNat := by
  have hnot : m ^^^ 0xFF#8 = ~~~m := BitVec.xor_allOnes
  rw [hnot, BitVec.toNat_not]

/-- A signed byte as a number, by its bit 7. -/
theorem toInt_byte (r : Byte) : r.toInt = if 128 ≤ r.toNat then (r.toNat : Int) - 256 else r.toNat := by
  rw [BitVec.toInt_eq_toNat_cond]
  split <;> split <;> omega

/-- The result of a binary addition or subtraction: value, carry, overflow, N and Z, and D and I as before. -/
structure BinaryResult (sum : Nat) (signed : Int) (p : Flags) (r : Byte × Flags) : Prop where
  value : r.1.toNat = sum % 256
  carry : r.2.c = true ↔ 255 < sum
  overflow : r.2.v = true ↔ signed < -128 ∨ 127 < signed
  negativeZero : NegativeAndZero r.2 r.1
  d : r.2.d = p.d
  i : r.2.i = p.i

theorem adcBinary_result (a m : Byte) (p : Flags) :
    BinaryResult (a.toNat + m.toNat + p.c.toNat) (a.toInt + m.toInt + p.c.toNat) p (adcBinary a m p) where
  value := BitVec.toNat_ofNat _ 8
  carry := by simp [adcBinary, Nat.lt_iff_add_one_le]
  overflow := by
    have ha := a.isLt
    have hm := m.isLt
    have hc := Bool.toNat_le p.c
    simp only [adcBinary, setNZ_v, getLsbD_seven, BitVec.toNat_ofNat, toInt_byte]
    generalize p.c.toNat = c at hc
    by_cases h1 : 128 ≤ a.toNat <;> by_cases h2 : 128 ≤ m.toNat <;> simp [h1, h2] <;> omega
  negativeZero := negativeAndZero_setNZ _ _
  d := rfl
  i := rfl

theorem sbcBinary_result (a m : Byte) (p : Flags) :
    BinaryResult (a.toNat + (255 - m.toNat) + p.c.toNat) (a.toInt - m.toInt - (1 - (p.c.toNat : Int))) p
      (sbcBinary a m p) where
  value := by rw [← toNat_xor_ff]; exact BitVec.toNat_ofNat _ 8
  carry := by rw [← toNat_xor_ff]; simp [sbcBinary, Nat.lt_iff_add_one_le]
  overflow := by
    have ha := a.isLt
    have hm := m.isLt
    have hc := Bool.toNat_le p.c
    simp only [sbcBinary, setNZ_v, getLsbD_seven, BitVec.toNat_ofNat, toInt_byte, toNat_xor_ff]
    generalize p.c.toNat = c at hc
    by_cases h1 : 128 ≤ a.toNat <;> by_cases h2 : 128 ≤ m.toNat <;> simp [h1, h2] <;> omega
  negativeZero := negativeAndZero_setNZ _ _
  d := rfl
  i := rfl

section
variable {s : State} (m : Byte)

theorem decimalMode_eq_false (h : s.p.d = false ∨ s.chip.cpu = .cpu12) : decimalMode s = false := by
  rcases h with h | h <;> simp [decimalMode, h]

theorem decimalMode_eq_true (hd : s.p.d = true) (hcpu : s.chip.cpu ≠ .cpu12) : decimalMode s = true := by
  simp [decimalMode, hd, hcpu]

theorem addWithCarry_binary (h : decimalMode s = false) :
    addWithCarry m s = { s with a := (adcBinary s.a m s.p).1, p := (adcBinary s.a m s.p).2 } := by
  simp [addWithCarry, h]

theorem subtractWithBorrow_binary (h : decimalMode s = false) :
    subtractWithBorrow m s = { s with a := (sbcBinary s.a m s.p).1, p := (sbcBinary s.a m s.p).2 } := by
  simp [subtractWithBorrow, h]

theorem addWithCarry_valid (h : decimalMode s = true) (ha : validBcd s.a = true) (hm : validBcd m = true) :
    addWithCarry m s = decimalValid s (adcDecimal s.a m s.p.c) := by
  simp [addWithCarry, h, ha, hm]

theorem subtractWithBorrow_valid (h : decimalMode s = true) (ha : validBcd s.a = true) (hm : validBcd m = true) :
    subtractWithBorrow m s = decimalValid s (sbcDecimal s.a m s.p.c) := by
  simp [subtractWithBorrow, h, ha, hm]

theorem validBcd_of_digits {b : Byte} {h l : Nat} (hh : h ≤ 9) (hl : l ≤ 9) (hb : b.toNat = 16 * h + l) :
    validBcd b = true ∧ decOf b = 10 * h + l := by
  have hdiv : b.toNat / 16 = h := by omega
  have hmod : b.toNat % 16 = l := by omega
  simp [validBcd, decOf, hdiv, hmod, hh, hl]

theorem bcdOf_mod_toNat (n : Nat) : (bcdOf (n % 100)).toNat = 16 * (n / 10 % 10) + n % 10 := by
  have htens : n % 100 / 10 = n / 10 % 10 := by omega
  have hones : n % 100 % 10 = n % 10 := by omega
  rw [bcdOf, BitVec.toNat_ofNat, htens, hones]
  omega

/-- The difference modulo 100 without negative numbers. -/
theorem toNat_sub_mod_hundred {x y c : Nat} (hx : x ≤ 99) (hy : y ≤ 99) (hc : c ≤ 1) :
    (((x : Int) - y - (1 - c)) % 100).toNat = (100 + x - y - (1 - c)) % 100 := by
  omega

end

section
variable {s s1 : State} {dd aa m : Byte} {aaaa : Addr} {i : Instr} {o : Operand}

/-- A form that reads leaves its effect's state, moved past the instruction. -/
theorem ReadsWith.exec_eq {f : Byte → State → State} (h : ReadsWith f (i, o)) (hread : readOperand s o = .ok (m, s1)) :
    ∃ n, s1 = { s with draws := n } ∧ exec i s = .next (advance (f m { s with draws := n }) i.length) := by
  have hframe := readOperand_frame hread
  refine ⟨s1.draws, hframe, ?_⟩
  rw [← hframe]
  exact h.next hread

end

/-- Settles O30: the binary sum, at the state after the operand read. -/
theorem adcBinaryResult : Obligations.AdcBinaryResult := by
  intro s s1 dd aa m aaaa i o hform hread hmode
  obtain ⟨n, rfl, hexec⟩ := (adcForms_reads hform).exec_eq hread
  rw [addWithCarry_binary (s := { s with draws := n }) m (decimalMode_eq_false hmode)] at hexec
  obtain ⟨hvalue, hcarry, hoverflow, hnz, hd, hi⟩ := adcBinary_result s.a m s.p
  exact ⟨_, hexec, hvalue, hcarry, hoverflow, hnz, hd, hi, rfl⟩

/-- Settles O31: the sum with the complement, read as a difference. -/
theorem sbcBinaryResult : Obligations.SbcBinaryResult := by
  intro s s1 dd aa m aaaa i o hform hread hmode
  obtain ⟨n, rfl, hexec⟩ := (sbcForms_reads hform).exec_eq hread
  rw [subtractWithBorrow_binary (s := { s with draws := n }) m (decimalMode_eq_false hmode)] at hexec
  obtain ⟨hvalue, hcarry, hoverflow, hnz, hd, hi⟩ := sbcBinary_result s.a m s.p
  have hm := m.isLt
  have hc := Bool.toNat_le s.p.c
  refine ⟨_, hexec, hvalue.trans ?_, hcarry.trans ?_, hoverflow, hnz, hd, hi, rfl⟩
  · omega
  · omega

/-- Settles O32: the decimal sum of two valid bytes. -/
theorem decimalAdcOnValidDigits : Obligations.DecimalAdcOnValidDigits := by
  intro s s1 dd aa m aaaa i o h l h' l' hform hread hd hcpu hh hl hh' hl' ha hm
  obtain ⟨n, rfl, hexec⟩ := (adcForms_reads hform).exec_eq hread
  obtain ⟨hvalidA, hdecA⟩ := validBcd_of_digits hh hl ha
  obtain ⟨hvalidM, hdecM⟩ := validBcd_of_digits hh' hl' hm
  rw [addWithCarry_valid (s := { s with draws := n }) m (decimalMode_eq_true hd hcpu) hvalidA hvalidM] at hexec
  refine ⟨_, hexec, ?_, ?_, rfl, rfl, rfl⟩
  · show (bcdOf ((decOf s.a + decOf m + s.p.c.toNat) % 100)).toNat = _
    rw [bcdOf_mod_toNat, hdecA, hdecM]
  · show decide (99 < decOf s.a + decOf m + s.p.c.toNat) = true ↔ _
    rw [decide_eq_true_iff, hdecA, hdecM]

/-- Settles O33: the decimal difference of two valid bytes. -/
theorem decimalSbcOnValidDigits : Obligations.DecimalSbcOnValidDigits := by
  intro s s1 dd aa m aaaa i o h l h' l' hform hread hd hcpu hh hl hh' hl' ha hm
  obtain ⟨n, rfl, hexec⟩ := (sbcForms_reads hform).exec_eq hread
  obtain ⟨hvalidA, hdecA⟩ := validBcd_of_digits hh hl ha
  obtain ⟨hvalidM, hdecM⟩ := validBcd_of_digits hh' hl' hm
  rw [subtractWithBorrow_valid (s := { s with draws := n }) m (decimalMode_eq_true hd hcpu) hvalidA hvalidM] at hexec
  have hc := Bool.toNat_le s.p.c
  refine ⟨_, hexec, ?_, ?_, rfl, rfl, rfl⟩
  · show (bcdOf (((decOf s.a : Int) - decOf m - (1 - s.p.c.toNat)) % 100).toNat).toNat = _
    rw [hdecA, hdecM, toNat_sub_mod_hundred (by omega) (by omega) hc, bcdOf_mod_toNat]
  · show decide ((0 : Int) ≤ (decOf s.a : Int) - decOf m - (1 - s.p.c.toNat)) = true ↔ _
    rw [decide_eq_true_iff, hdecA, hdecM]
    omega

/-- Settles O34: ADC and SBC leave D and I and everything but A, the other flags, pc and the count of draws. -/
theorem decimalOnInvalidDigitsRuns : Obligations.DecimalOnInvalidDigitsRuns := by
  intro s s1 dd aa m aaaa i o hform hread _ _ _
  have key : ∃ f, ReadsWith f (i, o) ∧ ∀ u, ArithmeticFrame u (f m u) := by
    rcases List.mem_append.1 hform with h | h
    · exact ⟨_, adcForms_reads h, addWithCarry_frame m⟩
    · exact ⟨_, sbcForms_reads h, subtractWithBorrow_frame m⟩
  obtain ⟨f, hreads, hframe⟩ := key
  obtain ⟨n, rfl, hexec⟩ := hreads.exec_eq hread
  rw [(hframe _).1] at hexec
  exact ⟨_, hexec, rfl, rfl, rfl⟩

/-! ## Comparison, logic, loads (R121, R126, R137 to R139, R143, R150 to R152, R155) -/

theorem compareFlags_n (r m : Byte) (p : Flags) :
    (compareFlags r m p).n = true ↔ 128 ≤ (256 + r.toNat - m.toNat) % 256 := by
  have := m.isLt
  rw [compareFlags, setNZ_n, getLsbD_seven, decide_eq_true_iff, BitVec.toNat_sub]
  omega

theorem compareFlags_z (r m : Byte) (p : Flags) : (compareFlags r m p).z = true ↔ r = m := by
  rw [compareFlags, setNZ_z, decide_eq_true_iff, BitVec.sub_eq_iff_eq_add, BitVec.zero_add]

/-- Settles O35: each form compares its register. -/
theorem compareSetsCarryZeroNegative : Obligations.CompareSetsCarryZeroNegative := by
  intro s s1 dd aa m r aaaa i o hform hread
  have key : ∃ f, ReadsWith f (i, o) ∧ ∀ n, f m { s with draws := n } =
      { s with draws := n, p := compareFlags r m s.p } := by
    rcases hform with ⟨h, rfl⟩ | ⟨h, rfl⟩ | ⟨h, rfl⟩
    · exact ⟨_, cmpForms_reads h, fun _ => rfl⟩
    · exact ⟨_, cpxForms_reads h, fun _ => rfl⟩
    · exact ⟨_, cpyForms_reads h, fun _ => rfl⟩
  obtain ⟨f, hreads, hf⟩ := key
  obtain ⟨n, rfl, hexec⟩ := hreads.exec_eq hread
  rw [hf] at hexec
  exact ⟨_, hexec, decide_eq_true_iff, compareFlags_z r m s.p, compareFlags_n r m s.p, rfl, rfl, rfl, rfl⟩

/-- Settles O38: each form combines A and its operand bit by bit. -/
theorem andOraEorResult : Obligations.AndOraEorResult := by
  intro s s1 dd aa m aaaa i o op hform hread
  have key : ∃ (f : Byte → State → State) (r : Byte), ReadsWith f (i, o) ∧
      (∀ k, r.getLsbD k = op (s.a.getLsbD k) (m.getLsbD k)) ∧
      ∀ n, f m { s with draws := n } = { s with draws := n, a := r, p := setNZ r s.p } := by
    rcases hform with ⟨h, rfl⟩ | ⟨h, rfl⟩ | ⟨h, rfl⟩
    · exact ⟨_, s.a &&& m, andForms_reads h, fun _ => BitVec.getLsbD_and, fun _ => rfl⟩
    · exact ⟨_, s.a ||| m, oraForms_reads h, fun _ => BitVec.getLsbD_or, fun _ => rfl⟩
    · exact ⟨_, s.a ^^^ m, eorForms_reads h, fun _ => BitVec.getLsbD_xor, fun _ => rfl⟩
  obtain ⟨f, r, hreads, hbits, hf⟩ := key
  obtain ⟨n, rfl, hexec⟩ := hreads.exec_eq hread
  rw [hf] at hexec
  exact ⟨_, hexec, fun k _ => hbits k, negativeAndZero_setNZ r s.p, rfl⟩

theorem and_eq_zero_iff (a m : Byte) :
    a &&& m = 0#8 ↔ ∀ k < 8, ¬(a.getLsbD k = true ∧ m.getLsbD k = true) := by
  constructor
  · intro h k _ hboth
    have := congrArg (fun b => b.getLsbD k) h
    simp [hboth] at this
  · intro h
    refine BitVec.eq_of_getLsbD_eq fun k hk => ?_
    have := h k hk
    rw [BitVec.getLsbD_and, BitVec.getLsbD_zero]
    cases ha : a.getLsbD k <;> simp_all

/-- Settles O39: the flags of BIT. -/
theorem bitTestFlags : Obligations.BitTestFlags := by
  intro s s1 aa m aaaa i o hform hread
  obtain ⟨n, rfl, hexec⟩ := (bitForms_reads hform).exec_eq hread
  exact ⟨_, hexec, rfl, rfl, decide_eq_true_iff.trans (and_eq_zero_iff s.a m), rfl⟩

/-- Settles O43: each form loads its register. -/
theorem loadResult : Obligations.LoadResult := by
  intro s s1 dd aa m aaaa i o hread
  refine ⟨fun h => ?lda, fun h => ?ldx, fun h => ?ldy⟩
  case lda =>
    obtain ⟨n, rfl, hexec⟩ := (ldaForms_reads h).exec_eq hread
    exact ⟨_, hexec, negativeAndZero_setNZ m s.p, rfl⟩
  case ldx =>
    obtain ⟨n, rfl, hexec⟩ := (ldxForms_reads h).exec_eq hread
    exact ⟨_, hexec, negativeAndZero_setNZ m s.p, rfl⟩
  case ldy =>
    obtain ⟨n, rfl, hexec⟩ := (ldyForms_reads h).exec_eq hread
    exact ⟨_, hexec, negativeAndZero_setNZ m s.p, rfl⟩

/-- Settles O44: each form stores its register. -/
theorem storeResult : Obligations.StoreResult := by
  intro s s1 aa v aaaa ea i place hform hea
  have hframe := effAddr_frame hea
  have key : ∃ w, StoresWith w (i, place) ∧ w s1 = v := by
    rcases hform with ⟨h, rfl⟩ | ⟨h, rfl⟩ | ⟨h, rfl⟩
    · exact ⟨_, staForms_stores h, by rw [hframe]⟩
    · exact ⟨_, stxForms_stores h, by rw [hframe]⟩
    · exact ⟨_, styForms_stores h, by rw [hframe]⟩
  obtain ⟨w, hstores, rfl⟩ := key
  rw [hstores.run, hstores.length]
  exact ⟨fun h => storeOp_unmapped w hea h, fun h => storeOp_mapped w hea h⟩

/-! ## Forms that change a byte of memory (R122, R135, R140, R144, R145, R153, R160, R161, R168) -/

/-- Settles O36: the byte changed by one. -/
theorem incrementDecrementMemory : Obligations.IncrementDecrementMemory := by
  intro s s1 aa aaaa ea i place change hform hea
  have key : ∃ (f : Byte → Flags → Byte × Flags) (mnemonic : String) (g : Byte → Byte),
      ModifiesWith f mnemonic (i, place) ∧ (∀ v p, f v p = (g v, setNZ (g v) p)) ∧
      ∀ v, (g v).toNat = (v.toNat + change) % 256 := by
    rcases hform with ⟨h, rfl⟩ | ⟨h, rfl⟩
    · exact ⟨_, _, _, incForms_modifies h, fun _ _ => rfl, toNat_increment⟩
    · exact ⟨_, _, _, decForms_modifies h, fun _ _ => rfl, toNat_decrement⟩
  obtain ⟨f, mnemonic, g, hmodifies, hf, hg⟩ := key
  rw [hmodifies.run, hmodifies.length]
  refine ⟨fun h => modifyOp_unmapped f hea h, fun h => ?_⟩
  obtain ⟨t, v, hexec, hbyte, hstored, hothers, hp, hframe⟩ := modifyOp_mapped f hea h
  rw [hf] at hstored hp
  refine ⟨t, v, g v, hexec, hbyte, hg v, hstored, hothers, ?_, ?_, ?_, ?_, ?_, hframe⟩
  · exact hp ▸ negativeAndZero_setNZ (g v) s.p
  all_goals rw [hp]; rfl

/-- A shift or rotate writes N, Z and C alone, N and Z from its result. -/
def ShiftFlags (p : Flags) (r : Byte × Flags) : Prop :=
  NegativeAndZero r.2 r.1 ∧ r.2 = { p with n := r.2.n, z := r.2.z, c := r.2.c }

section
variable (v : Byte) (p : Flags)

/-- The value and the carry of ASL, in numbers. -/
def AslSpec (r : Byte × Flags) : Prop := r.1.toNat = 2 * v.toNat % 256 ∧ (r.2.c = true ↔ 128 ≤ v.toNat)

/-- The value and the carry of LSR, in numbers. -/
def LsrSpec (r : Byte × Flags) : Prop := r.1.toNat = v.toNat / 2 ∧ (r.2.c = true ↔ v.toNat % 2 = 1)

/-- The value and the carry of ROL, in numbers. -/
def RolSpec (r : Byte × Flags) : Prop :=
  r.1.toNat = (2 * v.toNat + p.c.toNat) % 256 ∧ (r.2.c = true ↔ 128 ≤ v.toNat)

/-- The value and the carry of ROR, in numbers. -/
def RorSpec (r : Byte × Flags) : Prop :=
  r.1.toNat = v.toNat / 2 + 128 * p.c.toNat ∧ (r.2.c = true ↔ v.toNat % 2 = 1)

theorem getLsbD_seven_iff : v.getLsbD 7 = true ↔ 128 ≤ v.toNat := by rw [getLsbD_seven, decide_eq_true_iff]

theorem getLsbD_zero_iff : v.getLsbD 0 = true ↔ v.toNat % 2 = 1 := by
  rw [BitVec.getLsbD, Nat.testBit_zero, decide_eq_true_iff]

theorem aslResult_spec : AslSpec v (aslResult v p) ∧ ShiftFlags p (aslResult v p) := by
  refine ⟨⟨?_, getLsbD_seven_iff v⟩, negativeAndZero_setNZ _ _, rfl⟩
  show (v <<< 1).toNat = _
  rw [BitVec.toNat_shiftLeft, Nat.shiftLeft_eq, Nat.mul_comm]

theorem lsrResult_spec : LsrSpec v (lsrResult v p) ∧ ShiftFlags p (lsrResult v p) := by
  refine ⟨⟨?_, getLsbD_zero_iff v⟩, negativeAndZero_setNZ _ _, rfl⟩
  show (v >>> 1).toNat = _
  rw [BitVec.toNat_ushiftRight, Nat.shiftRight_eq_div_pow]

/-- The bit that a rotate brings in. -/
theorem carryByte_toNat (c : Bool) : ((BitVec.ofBool c).setWidth 8).toNat = c.toNat := by cases c <;> rfl

/-- The shifted byte has a 0 where the carry comes in. -/
theorem rolResult_value : (rolResult v p).1 = (v <<< 1) + (BitVec.ofBool p.c).setWidth 8 := by
  refine (BitVec.add_eq_or_of_and_eq_zero _ _ ?_).symm
  refine BitVec.eq_of_getLsbD_eq fun k hk => ?_
  cases k <;> cases p.c <;> simp

theorem rorResult_value : (rorResult v p).1 = (v >>> 1) + ((BitVec.ofBool p.c).setWidth 8 <<< 7) := by
  refine (BitVec.add_eq_or_of_and_eq_zero _ _ ?_).symm
  refine BitVec.eq_of_getLsbD_eq fun k hk => ?_
  rw [BitVec.getLsbD_and, BitVec.getLsbD_ushiftRight, BitVec.getLsbD_shiftLeft, BitVec.getLsbD_zero]
  by_cases hlt : k < 7
  · simp [hlt]
  · rw [BitVec.getLsbD_of_ge v (1 + k) (by omega), Bool.false_and]

theorem rolResult_spec : RolSpec v p (rolResult v p) ∧ ShiftFlags p (rolResult v p) := by
  refine ⟨⟨?_, getLsbD_seven_iff v⟩, negativeAndZero_setNZ _ _, rfl⟩
  rw [rolResult_value, BitVec.toNat_add, BitVec.toNat_shiftLeft, Nat.shiftLeft_eq, carryByte_toNat]
  omega

theorem rorResult_spec : RorSpec v p (rorResult v p) ∧ ShiftFlags p (rorResult v p) := by
  refine ⟨⟨?_, getLsbD_zero_iff v⟩, negativeAndZero_setNZ _ _, rfl⟩
  have hv := v.isLt
  have hc := Bool.toNat_le p.c
  rw [rorResult_value, BitVec.toNat_add, BitVec.toNat_ushiftRight, Nat.shiftRight_eq_div_pow, BitVec.toNat_shiftLeft,
    Nat.shiftLeft_eq, carryByte_toNat]
  omega

end

section
variable {s s1 : State} {f g : Byte → Flags → Byte × Flags} {i : Instr} {place : Place} {ea : Addr}

/-- The memory forms of two shifts or rotates with their mnemonics, and what each says of its value and its carry. -/
theorem shiftForms_by_kind {first second : String} {firstForms secondForms : List (Instr × Place)}
    {First Second : Byte → Byte × Flags → Prop} (hne : first ≠ second)
    (hfirst : ∀ form ∈ firstForms, ModifiesWith f first form)
    (hsecond : ∀ form ∈ secondForms, ModifiesWith g second form)
    (specFirst : ∀ v, First v (f v s.p) ∧ ShiftFlags s.p (f v s.p))
    (specSecond : ∀ v, Second v (g v s.p) ∧ ShiftFlags s.p (g v s.p))
    (hea : effAddr s place = .ok (ea, s1)) (hform : (i, place) ∈ firstForms ∨ (i, place) ∈ secondForms) :
    (s.kindAt ea = .unmapped → exec i s = .fault (.unmappedRead ea)) ∧
    (s.kindAt ea ≠ .unmapped → ∃ (t : State) (v r : Byte), exec i s = .next t ∧ (HoldsByte s ea → v = s.byteAt ea) ∧
      ((i, place) ∈ firstForms → First v (r, t.p)) ∧ ((i, place) ∈ secondForms → Second v (r, t.p)) ∧
      Stored s t ea r ∧ (∀ b, b ≠ ea → t.byteAt b = s.byteAt b) ∧ NegativeAndZero t.p r ∧
      t = { s1 with
        mem := t.mem, p := { s.p with n := t.p.n, z := t.p.z, c := t.p.c }, pc := s.pc + BitVec.ofNat 16 i.length,
        draws := t.draws }) := by
  have key : ∃ h mnemonic, ModifiesWith h mnemonic (i, place) ∧ ∀ v, ((i, place) ∈ firstForms → First v (h v s.p)) ∧
      ((i, place) ∈ secondForms → Second v (h v s.p)) ∧ ShiftFlags s.p (h v s.p) := by
    rcases hform with hin | hin
    · have hm := hfirst _ hin
      exact ⟨f, first, hm, fun v => ⟨fun _ => (specFirst v).1,
        fun h => absurd (hm.mnemonic.symm.trans (hsecond _ h).mnemonic) hne, (specFirst v).2⟩⟩
    · have hm := hsecond _ hin
      exact ⟨g, second, hm, fun v => ⟨fun h => absurd ((hfirst _ h).mnemonic.symm.trans hm.mnemonic) hne,
        fun _ => (specSecond v).1, (specSecond v).2⟩⟩
  obtain ⟨h, mnemonic, hm, hspec⟩ := key
  rw [hm.run, hm.length]
  refine ⟨fun hk => modifyOp_unmapped h hea hk, fun hk => ?_⟩
  obtain ⟨t, v, hexec, hbyte, hstored, hothers, hp, hframe⟩ := modifyOp_mapped h hea hk
  obtain ⟨hfirst', hsecond', hnz, hflags⟩ := hspec v
  rw [← hp] at hnz hflags
  refine ⟨t, v, (h v s.p).1, hexec, hbyte, ?_, ?_, hstored, hothers, hnz, ?_⟩
  · rw [hp]
    exact hfirst'
  · rw [hp]
    exact hsecond'
  · rw [← hflags]
    exact hframe

end

/-- Settles O40: the two shifts of a byte, in A and in memory. -/
theorem shiftResult : Obligations.ShiftResult := by
  refine ⟨fun s => ?asl, fun s => ?lsr, fun s s1 aa aaaa ea i place hea hform => ?memory⟩
  case asl =>
    obtain ⟨⟨hvalue, hcarry⟩, hnz, _⟩ := aslResult_spec s.a s.p
    exact ⟨_, accumulatorOp_next aslResult s, hvalue, hcarry, hnz, rfl⟩
  case lsr =>
    obtain ⟨⟨hvalue, hcarry⟩, hnz, _⟩ := lsrResult_spec s.a s.p
    exact ⟨_, accumulatorOp_next lsrResult s, hvalue, hcarry, hnz, rfl⟩
  case memory =>
    exact shiftForms_by_kind (by decide) (fun _ => aslForms_modifies) (fun _ => lsrForms_modifies)
      (fun v => aslResult_spec v s.p) (fun v => lsrResult_spec v s.p) hea hform

/-- Settles O41: the two rotates of a byte and the carry, in A and in memory. -/
theorem rotateResult : Obligations.RotateResult := by
  refine ⟨fun s => ?rol, fun s => ?ror, fun s s1 aa aaaa ea i place hea hform => ?memory⟩
  case rol =>
    obtain ⟨⟨hvalue, hcarry⟩, hnz, _⟩ := rolResult_spec s.a s.p
    exact ⟨_, accumulatorOp_next rolResult s, hvalue, hcarry, hnz, rfl⟩
  case ror =>
    obtain ⟨⟨hvalue, hcarry⟩, hnz, _⟩ := rorResult_spec s.a s.p
    exact ⟨_, accumulatorOp_next rorResult s, hvalue, hcarry, hnz, rfl⟩
  case memory =>
    exact shiftForms_by_kind (by decide) (fun _ => rolForms_modifies) (fun _ => rorForms_modifies)
      (fun v => rolResult_spec v s.p) (fun v => rorResult_spec v s.p) hea hform

/-! ## The ring of nine bits (R160, R161) -/

/-- The nine bits that ROL A and ROR A rotate: those of A and, as bit 8, the carry. -/
def ringBit (s : State) (j : Nat) : Bool := if j < 8 then s.a.getLsbD j else s.p.c

theorem eq_of_ringBit_eq {s t : State} (h : ∀ j < 9, ringBit t j = ringBit s j) : t.a = s.a ∧ t.p.c = s.p.c := by
  refine ⟨BitVec.eq_of_getLsbD_eq fun j hj => ?_, h 8 (by decide)⟩
  simpa only [ringBit, hj, if_true] using h j (by omega)

/-- ROL A moves every bit of the ring one place up. -/
theorem ringBit_rol {s t : State} (h : exec .rolAcc s = .next t) (j : Nat) (hj : j < 9) :
    ringBit t ((j + 1) % 9) = ringBit s j := by
  obtain rfl := Host.Outcome.next.inj ((accumulatorOp_next rolResult s).symm.trans h)
  interval_cases j <;> simp [ringBit, rolResult]

/-- ROR A moves every bit of the ring one place down. -/
theorem ringBit_ror {s t : State} (h : exec .rorAcc s = .next t) (j : Nat) (hj : j < 9) :
    ringBit t j = ringBit s ((j + 1) % 9) := by
  obtain rfl := Host.Outcome.next.inj ((accumulatorOp_next rorResult s).symm.trans h)
  interval_cases j <;> simp [ringBit, rorResult]

/-- Settles O42: a rotation back undoes one, and nine of them come full circle. -/
theorem rorUndoesRol : Obligations.RorUndoesRol := by
  refine ⟨fun s => ?undo, fun run hrun => ?circle⟩
  case undo =>
    obtain ⟨t, ht⟩ : ∃ t, exec .rolAcc s = .next t := ⟨_, accumulatorOp_next rolResult s⟩
    obtain ⟨u, hu⟩ : ∃ u, exec .rorAcc t = .next u := ⟨_, accumulatorOp_next rorResult t⟩
    exact ⟨t, u, ht, hu, eq_of_ringBit_eq fun j hj => (ringBit_ror hu j hj).trans (ringBit_rol ht j hj)⟩
  case circle =>
    have turned : ∀ k ≤ 9, ∀ j < 9, ringBit (run k) ((j + k) % 9) = ringBit (run 0) j := by
      intro k hk
      induction k with
      | zero => intro j hj; rw [Nat.add_zero, Nat.mod_eq_of_lt hj]
      | succ k ih =>
        intro j hj
        have hstep := ringBit_rol (hrun k (by omega)) ((j + k) % 9) (Nat.mod_lt _ (by decide))
        rw [Nat.mod_add_mod] at hstep
        exact hstep.trans (ih (by omega) j hj)
    refine eq_of_ringBit_eq fun j hj => ?_
    have := turned 9 le_rfl j hj
    rwa [Nat.add_mod_right, Nat.mod_eq_of_lt hj] at this

/-! ## The zero-page bit instructions (R112, R135, R145, R168, R174) -/

theorem getLsbD_bitMask (n k : Nat) (hk : k < 8) : (bitMask n).getLsbD k = decide (k = n) := by
  rw [bitMask, BitVec.getLsbD_shiftLeft, BitVec.getLsbD_one]
  by_cases h : k = n
  · simp [h, h ▸ hk]
  · simp [h]
    omega

section
variable (n : Nat) (v : Byte) (p : Flags) {k : Nat} (hk : k < 8)
include hk

theorem getLsbD_clrResult : (clrResult n v p).1.getLsbD k = if k = n then false else v.getLsbD k := by
  have hff : (0xFF#8).getLsbD k = true := (BitVec.getLsbD_allOnes (v := 8)).trans (decide_eq_true hk)
  rw [clrResult, BitVec.getLsbD_and, BitVec.getLsbD_xor, hff, getLsbD_bitMask n k hk]
  by_cases h : k = n <;> simp [h]

theorem getLsbD_setResult : (setResult n v p).1.getLsbD k = if k = n then true else v.getLsbD k := by
  rw [setResult, BitVec.getLsbD_or, getLsbD_bitMask n k hk]
  by_cases h : k = n <;> simp [h]

theorem getLsbD_invResult : (invResult n v p).1.getLsbD k = if k = n then !v.getLsbD k else v.getLsbD k := by
  rw [invResult, BitVec.getLsbD_xor, getLsbD_bitMask n k hk]
  by_cases h : k = n <;> simp [h]

end

/-- Settles O47: each form is a change of one bit at the zero-page address. -/
theorem bitClearSetInvert : Obligations.BitClearSetInvert := by
  intro s aa ea i n newBit haddr hform
  have key : ∃ f : Byte → Flags → Byte × Flags, exec i = modifyOp (.zp aa) f ∧ (∀ v p, (f v p).2 = p) ∧
      ∀ v p, ∀ k < 8, (f v p).1.getLsbD k = if k = n then newBit (v.getLsbD k) else v.getLsbD k := by
    rcases hform with ⟨h, rfl⟩ | ⟨h, rfl⟩ | ⟨h, rfl⟩
    · exact ⟨_, clrForms_modifies h, fun _ _ => rfl, fun v p _ hk => getLsbD_clrResult n v p hk⟩
    · exact ⟨_, setForms_modifies h, fun _ _ => rfl, fun v p _ hk => getLsbD_setResult n v p hk⟩
    · exact ⟨_, invForms_modifies h, fun _ _ => rfl, fun v p _ hk => getLsbD_invResult n v p hk⟩
  obtain ⟨f, hrun, hflags, hbits⟩ := key
  have hea : effAddr s (.zp aa) = .ok (ea, s) := by rw [← zeroPage_eq haddr]; rfl
  rw [hrun]
  refine ⟨fun h => modifyOp_unmapped f hea h, fun h => ?_⟩
  obtain ⟨t, v, hexec, hbyte, ⟨hram, hother⟩, hothers, hp, hframe⟩ := modifyOp_mapped f hea h
  rw [hflags] at hp
  refine ⟨t, hexec, fun hk => ?_, hother, hothers, ?_⟩
  · rw [hram hk, ← hbyte (.inr hk)]
    exact hbits v s.p
  · rw [hp] at hframe
    exact hframe

/-- Settles O48: TST reads the zero-page byte and writes Z. -/
theorem bitTestInstruction : Obligations.BitTestInstruction := by
  intro s aa ea i n haddr hform
  have hea : effAddr s (.zp aa) = .ok (ea, s) := by rw [← zeroPage_eq haddr]; rfl
  rw [tstForms_reads hform]
  refine ⟨fun h => ?held, fun h => ?io, fun h => ?unmapped⟩
  case held => exact readOp_next (by rw [readOperand_mem hea, memRead_holdsByte h])
  case io =>
    exact ⟨_, readOp_next ((readOperand_mem hea).trans (memRead_io s ea h)), rfl⟩
  case unmapped => exact readOp_fault _ (by rw [readOperand_mem hea, memRead_unmapped s ea h])

end Sys2Proof.Laws

namespace Sys2Proof.Laws

open Sys2Proof.Machine Sys2Proof.Claims

/-! ## What draws: an access to I/O, the status byte, the decimal operations (R9, log 13 to 16) -/

section
variable {s t : State} {addr target : Addr} {v : Byte}

theorem memRead_io_draws (h : memRead s addr = .ok (v, t)) (hio : s.kindAt addr = .io) : s.draws < t.draws := by
  rw [memRead_io s addr hio] at h
  obtain ⟨-, rfl⟩ := Prod.mk.inj (Except.ok.inj h)
  exact Nat.lt_succ_self _

theorem read16_io_draws {lo hi : Addr} (h : read16 s lo hi = .ok (target, t))
    (hio : s.kindAt lo = .io ∨ s.kindAt hi = .io) : s.draws < t.draws := by
  obtain ⟨_, s1, _, hlo, hhi, _⟩ := read16_cases h
  rcases hio with hio | hio
  · exact (memRead_io_draws hlo hio).trans_le (memRead_keeps hhi).draws
  · exact (memRead_keeps hlo).draws.trans_lt (memRead_io_draws hhi ((memRead_kindAt hlo hi).trans hio))

theorem pull_io_draws (h : pull s = .ok (v, t)) (hio : s.kindAt (addrOf s.chip.stackPage (s.sp + 1#8)) = .io) :
    s.draws < t.draws := (memRead_io_draws (pull_cases h) hio :)

theorem pullAddr_io_draws (h : pullAddr s = .ok (target, t))
    (hio : s.kindAt (addrOf s.chip.stackPage (s.sp + 1#8)) = .io ∨
      s.kindAt (addrOf s.chip.stackPage (s.sp + 2#8)) = .io) : s.draws < t.draws := by
  obtain ⟨_, s1, _, hlo, hhi, _⟩ := pullAddr_cases h
  rcases hio with hio | hio
  · exact (pull_io_draws hlo hio).trans_le (pull_keeps hhi).draws
  · refine (pull_keeps hlo).draws.trans_lt (pull_io_draws hhi ?_)
    rwa [kindAt_congr (pull_chip hlo), pull_chip hlo, pull_sp hlo, add_one_add_one]

theorem returnFromInterrupt_io_draws (h : returnFromInterrupt s = .ok t)
    (hio : s.kindAt (addrOf s.chip.stackPage (s.sp + 1#8)) = .io ∨
      s.kindAt (addrOf s.chip.stackPage (s.sp + 2#8)) = .io ∨
      s.kindAt (addrOf s.chip.stackPage (s.sp + 3#8)) = .io) : s.draws < t.draws := by
  obtain ⟨s1, _, s2, hp, hpc, rfl⟩ := returnFromInterrupt_cases h
  rcases hio with hio | hio
  · obtain ⟨_, s1', hpull, rfl⟩ := pullStatus_cases hp
    exact (pull_io_draws hpull hio).trans_le (pullAddr_keeps hpc).draws
  · have hframe := pullStatus_frame hp
    have hchip : s1.chip = s.chip := by rw [hframe]
    have hsp : s1.sp = s.sp + 1#8 := by rw [hframe]
    have hpull : s1.draws < s2.draws := pullAddr_io_draws hpc (by
      rwa [kindAt_congr hchip, kindAt_congr hchip, hchip, hsp, add_one_add_one, add_one_add_two])
    exact (pullStatus_keeps hp).draws.trans_lt hpull

theorem statusByte_draws_lt (s : State) : s.draws < (statusByte s).2.draws := by
  rw [statusByte_draws]
  split <;> omega

theorem pushStatus_draws (h : pushStatus s = .ok t) : s.draws < t.draws :=
  (statusByte_draws_lt s).trans_le (push_keeps (pushStatus_cases h)).draws

theorem enterInterrupt_draws (h : enterInterrupt s = .ok t) : s.draws < t.draws := by
  obtain ⟨s1, s2, _, _, s3, hpc, hp, _, hvector, rfl⟩ := enterInterrupt_cases h
  calc s.draws ≤ s1.draws := (pushAddr_keeps hpc).draws
    _ < s2.draws := pushStatus_draws hp
    _ ≤ s3.draws := (read16_keeps hvector).draws

theorem decimalValid_draws (s : State) (r : Byte × Bool) : s.draws < (decimalValid s r).draws :=
  show s.draws < s.draws + 3 by omega

theorem decimalInvalid_draws (s : State) : s.draws < (decimalInvalid s).draws :=
  show s.draws < s.draws + 5 by omega

theorem addWithCarry_decimal_draws (m : Byte) (h : decimalMode s = true) : s.draws < (addWithCarry m s).draws := by
  rw [addWithCarry, if_pos h]
  split
  · exact decimalValid_draws s _
  · exact decimalInvalid_draws s

theorem subtractWithBorrow_decimal_draws (m : Byte) (h : decimalMode s = true) :
    s.draws < (subtractWithBorrow m s).draws := by
  rw [subtractWithBorrow, if_pos h]
  split
  · exact decimalValid_draws s _
  · exact decimalInvalid_draws s

theorem effAddr_pointer_draws {place : Place} {aa q : Byte} {ea : Addr} (h : effAddr s place = .ok (ea, t))
    (hplace : place = .indx aa ∧ q = aa + s.x ∨ place = .indy aa ∧ q = aa)
    (hio : s.kindAt (zeroPage q) = .io ∨ s.kindAt (zeroPage (q + 1#8)) = .io) : s.draws < t.draws := by
  rcases hplace with ⟨rfl, rfl⟩ | ⟨rfl, rfl⟩
  · exact read16_io_draws h hio
  · simp only [effAddr, bind_eq_ok] at h
    obtain ⟨⟨base, s1⟩, hread, heq⟩ := h
    obtain ⟨-, rfl⟩ := Prod.mk.inj (Except.ok.inj heq)
    exact read16_io_draws hread hio

end

/-! ## A fetch that reads a byte from I/O draws -/

theorem readsBytes_draws {s t : State} {addr : Addr} {bytes : List Byte} (h : ReadsBytes s addr bytes t) :
    s.draws ≤ t.draws := by
  induction bytes generalizing s addr with
  | nil => exact (congrArg State.draws h).ge
  | cons b rest ih =>
    obtain ⟨u, hb, hrest⟩ := h
    exact (memRead_keeps hb).draws.trans (ih hrest)

theorem readsBytes_io_draws {s t : State} {addr : Addr} {bytes : List Byte} (h : ReadsBytes s addr bytes t) {k : Nat}
    (hk : k < bytes.length) (hio : s.kindAt (addr + BitVec.ofNat 16 k) = .io) : s.draws < t.draws := by
  induction bytes generalizing s addr k with
  | nil => simp at hk
  | cons b rest ih =>
    obtain ⟨u, hb, hrest⟩ := h
    cases k with
    | zero =>
      rw [BitVec.add_zero] at hio
      exact (memRead_io_draws hb hio).trans_le (readsBytes_draws hrest)
    | succ k =>
      rw [addr_add_ofNat_succ] at hio
      exact (memRead_keeps hb).draws.trans_lt
        (ih hrest (Nat.lt_of_succ_lt_succ hk) ((memRead_kindAt hb _).trans hio))

theorem fetch_io_draws {s t : State} {i : Instr} (h : fetch s = .ok (i, t)) {k : Nat} (hk : k < i.length)
    (hio : s.kindAt (s.pc + BitVec.ofNat 16 k) = .io) : s.draws < t.draws :=
  readsBytes_io_draws (readsBytes_of_fetch h).2 (by rwa [encode_length]) hio

/-! ## The accesses of an instruction that completes -/

/-- The instruction computes the effective address of the place, and what it does after that never lowers the count of
draws. -/
def AddressesFirst (i : Instr) (place : Place) : Prop :=
  ∀ s t, exec i s = .next t → ∃ ea s1, effAddr s place = .ok (ea, s1) ∧ s1.draws ≤ t.draws

/-- The instruction reads the byte at the effective address of the place, and what it does after that never lowers the
count of draws. -/
def ReadsFirst (i : Instr) (place : Place) : Prop :=
  ∀ s t, exec i s = .next t →
    ∃ ea s1 v s2, effAddr s place = .ok (ea, s1) ∧ memRead s1 ea = .ok (v, s2) ∧ s2.draws ≤ t.draws

section
variable {i : Instr} {place : Place}

theorem ReadsFirst.addressesFirst (h : ReadsFirst i place) : AddressesFirst i place := by
  intro s t hexec
  obtain ⟨ea, s1, v, s2, hea, hread, hdraws⟩ := h s t hexec
  exact ⟨ea, s1, hea, (memRead_keeps hread).draws.trans hdraws⟩

theorem readsFirst_of_readOp {mnemonic : String} {f : Byte → State → State} (effect : ReadEffect mnemonic f)
    (run : exec i = readOp (.mem place) f) : ReadsFirst i place := by
  intro s t h
  obtain ⟨m, s1, hread, rfl⟩ := readOp_cases (run ▸ h)
  rcases readOperand_cases hread with ⟨himm, _⟩ | ⟨_, ea, s0, heq, hea, hbyte⟩
  · cases himm
  · obtain rfl := Operand.mem.inj heq
    exact ⟨ea, s0, m, s1, hea, hbyte, (effect.keeps m s1).draws⟩

theorem readsFirst_of_modifyOp {f : Byte → Flags → Byte × Flags} (run : exec i = modifyOp place f) :
    ReadsFirst i place := by
  intro s t h
  obtain ⟨ea, s1, v, s2, s3, hea, hread, hwrite, rfl⟩ := modifyOp_cases (run ▸ h)
  exact ⟨ea, s1, v, s2, hea, hread, (memWrite_keeps hwrite).draws⟩

theorem addressesFirst_of_storeOp {v : State → Byte} (run : exec i = storeOp place v) : AddressesFirst i place := by
  intro s t h
  obtain ⟨ea, s1, s2, hea, hwrite, rfl⟩ := storeOp_cases (run ▸ h)
  exact ⟨ea, s1, hea, (memWrite_keeps hwrite).draws⟩

variable {dd aa : Byte} {aaaa : Addr}

theorem readForms_readFirst (h : (i, Operand.mem place) ∈ readForms dd aa aaaa) : ReadsFirst i place := by
  obtain ⟨_, _, effect, hreads⟩ := readForms_reads h
  exact readsFirst_of_readOp effect hreads.run

theorem modifyForms_readFirst (h : (i, place) ∈ modifyForms aa aaaa) : ReadsFirst i place := by
  obtain ⟨_, _, hmodifies⟩ := modifyForms_modifies h
  exact readsFirst_of_modifyOp hmodifies.run

theorem storeForms_addressFirst (h : (i, place) ∈ storeForms aa aaaa) : AddressesFirst i place := by
  obtain ⟨_, hstores⟩ := storeForms_stores h
  exact addressesFirst_of_storeOp hstores.run

theorem bitForms_readFirst {n : Nat} (h : (i, n) ∈ clrForms aa ++ setForms aa ++ invForms aa ++ tstForms aa) :
    ReadsFirst i (.zp aa) := by
  simp only [List.mem_append] at h
  rcases h with ((h | h) | h) | h
  · exact readsFirst_of_modifyOp (clrForms_modifies h)
  · exact readsFirst_of_modifyOp (setForms_modifies h)
  · exact readsFirst_of_modifyOp (invForms_modifies h)
  · exact readsFirst_of_readOp (.tst n) (tstForms_reads h)

theorem ReadsFirst.draws {s s1 t : State} {ea : Addr} (h : ReadsFirst i place) (hexec : exec i s = .next t)
    (hea : effAddr s place = .ok (ea, s1)) (hio : s.kindAt ea = .io) : s.draws < t.draws := by
  obtain ⟨ea', s1', _, s2, hea', hread, hdraws⟩ := h s t hexec
  obtain ⟨rfl, rfl⟩ := Prod.mk.inj (Except.ok.inj (hea.symm.trans hea'))
  calc s.draws ≤ s1.draws := (effAddr_keeps hea).draws
    _ < s2.draws := memRead_io_draws hread ((kindAt_congr (effAddr_chip hea) ea).trans hio)
    _ ≤ t.draws := hdraws

end

theorem decimal_exec_draws {s t : State} {i : Instr} {o : Operand} {dd aa : Byte} {aaaa : Addr}
    (hform : (i, o) ∈ adcForms dd aa aaaa ++ sbcForms dd aa aaaa) (hd : s.p.d = true) (hcpu : s.chip.cpu ≠ .cpu12)
    (h : exec i s = .next t) : s.draws < t.draws := by
  have key {f : Byte → State → State} (hreads : ReadsWith f (i, o))
      (hf : ∀ m s1, decimalMode s1 = true → s1.draws < (f m s1).draws) : s.draws < t.draws := by
    obtain ⟨m, s1, hread, rfl⟩ := readOp_cases (hreads.run ▸ h)
    have hframe := readOperand_frame hread
    have hmode : decimalMode s1 = true := decimalMode_eq_true (by rwa [hframe]) (by rwa [hframe])
    exact (readOperand_keeps hread).draws.trans_lt (hf m s1 hmode)
  rcases List.mem_append.1 hform with hform | hform
  · exact key (adcForms_reads hform) fun m _ => addWithCarry_decimal_draws m
  · exact key (sbcForms_reads hform) fun m _ => subtractWithBorrow_decimal_draws m

/-! ## The instructions that pull, by their mnemonics -/

theorem pulling_cases {i : Instr} (h : i.mnemonic ∈ ["PLA", "PLP", "RTS", "RTI"]) :
    i = .pla ∨ i = .plp ∨ i = .rts ∨ i = .rti := by
  cases i <;> simp [Instr.mnemonic] at h ⊢

/-- The first location of a pull is read by all four, the second by the two returns and the third by RTI alone. -/
theorem pull_exec_draws {s t : State} {i : Instr} (h : exec i s = .next t)
    (hio : i.mnemonic ∈ ["PLA", "PLP", "RTS", "RTI"] ∧ s.kindAt (addrOf s.chip.stackPage (s.sp + 1#8)) = .io ∨
      i.mnemonic ∈ ["RTS", "RTI"] ∧ s.kindAt (addrOf s.chip.stackPage (s.sp + 2#8)) = .io ∨
      i.mnemonic = "RTI" ∧ s.kindAt (addrOf s.chip.stackPage (s.sp + 3#8)) = .io) : s.draws < t.draws := by
  have hpulls : i.mnemonic ∈ ["PLA", "PLP", "RTS", "RTI"] := by
    rcases hio with ⟨hm, _⟩ | ⟨hm, _⟩ | ⟨hm, _⟩
    · exact hm
    · exact List.mem_of_mem_drop (i := 2) hm
    · simp [hm]
  rcases pulling_cases hpulls with rfl | rfl | rfl | rfl
  · obtain ⟨_, s1, hpull, rfl⟩ := pullA_cases h
    exact (pull_io_draws hpull (by simpa [Instr.mnemonic] using hio) :)
  · obtain ⟨s1, hstatus, rfl⟩ := pullP_cases h
    obtain ⟨_, s0, hpull, rfl⟩ := pullStatus_cases hstatus
    exact (pull_io_draws hpull (by simpa [Instr.mnemonic] using hio) :)
  · obtain ⟨_, s1, hpull, rfl⟩ := returnSubroutine_cases h
    exact (pullAddr_io_draws hpull (by simpa [Instr.mnemonic] using hio) :)
  · exact returnFromInterrupt_io_draws (outcome_eq_next.1 h) (by simpa [Instr.mnemonic] using hio)

/-! ## The numbers of the draws -/

theorem statusByte_drawnBits (s : State) :
    (statusByte s).1.getLsbD 5 = Config.freeBit s.draws ∧ (statusByte s).1.getLsbD 4 = Config.freeBit (s.draws + 1) ∧
    (s.chip.cpu = .cpu12 → (statusByte s).1.getLsbD 3 = Config.freeBit (s.draws + 2)) := by
  obtain ⟨_, _, hstatus⟩ := statusByte_cases s
  refine ⟨hstatus ▸ byteOfFlags_bit5 .., hstatus ▸ byteOfFlags_bit4 .., fun hcpu => ?_⟩
  simp only [statusByte, drawBit, hcpu]
  exact byteOfFlags_bit3 ..

/-- Settles O60: the numbers of each kind of draw, and that every operation which draws leaves a greater count. -/
theorem drawsNeverRunBackwards : Obligations.DrawsNeverRunBackwards := by
  intro s t
  refine ⟨?numbers, fun h => ⟨?monotone, fun hi => ?interrupt, fun hi i s1 hf => ?fetch⟩, fun i dd aa aaaa h => ?exec⟩
  case numbers =>
    obtain ⟨hbit5, hbit4, hbit3⟩ := statusByte_drawnBits s
    refine ⟨rfl, rfl, fun addr hio => memRead_io s addr hio, hbit5, hbit4, hbit3, ?_⟩
    rw [statusByte_frame, statusByte_draws]
  case monotone => exact nextInput_draws s ▸ (step_keeps h).draws
  case interrupt =>
    rw [step_taken hi] at h
    exact nextInput_draws s ▸ enterInterrupt_draws (outcome_eq_next.1 h)
  case fetch =>
    rintro ⟨k, hk, hio⟩
    rw [step_fetched hi hf] at h
    have hfetch := fetch_io_draws hf hk (by rwa [nextInput_kindAt, nextInput_pc])
    exact nextInput_draws s ▸ hfetch.trans_le (exec_keeps h).draws
  case exec =>
    refine ⟨?php, fun hd hcpu ⟨o, hform⟩ => decimal_exec_draws hform hd hcpu h,
      fun hm hio => pull_exec_draws h (.inl ⟨hm, hio⟩), fun hm hio => pull_exec_draws h (.inr (.inl ⟨hm, hio⟩)),
      fun hm hio => pull_exec_draws h (.inr (.inr ⟨hm, hio⟩)), ?jump, ?pointer, ?operand⟩
    case php =>
      rintro rfl
      obtain ⟨s1, hpush, rfl⟩ := pushP_cases h
      exact (pushStatus_draws hpush :)
    case jump =>
      rintro high rfl hhigh hio
      obtain ⟨high', _, s1, hhigh', hread, rfl⟩ := jumpIndirect_cases h
      obtain rfl := Option.some.inj (hhigh.symm.trans hhigh')
      exact (read16_io_draws hread hio :)
    case pointer =>
      intro place q hplace hform hio
      have haddresses : AddressesFirst i place := by
        rcases hform with hform | hform
        · exact (readForms_readFirst hform).addressesFirst
        · rcases List.mem_append.1 hform with hform | hform
          · exact storeForms_addressFirst hform
          · exact (modifyForms_readFirst hform).addressesFirst
      obtain ⟨ea, s1, hea, hdraws⟩ := haddresses s t h
      exact (effAddr_pointer_draws hea hplace hio).trans_le hdraws
    case operand =>
      intro place ea s1 hea hio hform
      have hreads : ReadsFirst i place := by
        rcases hform with hform | hform | ⟨n, hform, rfl⟩
        · exact readForms_readFirst hform
        · exact modifyForms_readFirst hform
        · exact bitForms_readFirst hform
      exact hreads.draws h hea hio

end Sys2Proof.Laws
